-- ==== Sys2Proof/Word.lean ====
section
/-! DEFINITION. The two fixed-width word types of the block (R8, R9): `u8` and `u16`. -/

namespace Sys2Proof

/-- `u8` of R9: a register half, a memory byte, an opcode byte. -/
abbrev Byte := BitVec 8

/-- `u16` of R9: an address, PC, SP or a pair view. -/
abbrev Word := BitVec 16

end Sys2Proof
end

