-- ==== Sys2Proof/Decode.lean ====
section
/-! DEFINITION. The decoder and the encoder (30_encoding.md): the primary map of R93 and the extended map of R94, row
by row, decoding total on any bytes, the encoding table, the two views between `Instr` and `Form`, and the layout of an
opcode-table word. -/

namespace Sys2Proof

/-! ## Byte order (R9, R70, R88) -/

/-- `v[7:0]` of a u16. -/
def lowByte (w : Word) : Byte := w.extractLsb' 0 8

/-- `v[15:8]` of a u16. -/
def highByte (w : Word) : Byte := w.extractLsb' 8 8

/-- `{hi, lo}` of R9: the u16 `hi * 256 + lo`. -/
def wordOf (hi lo : Byte) : Word := hi ++ lo

/-! ## The opcode maps -/

/-- One slot of the primary table: what the first byte selects and which operand bytes follow it (R80). -/
inductive Entry where
  /-- No operand byte. -/
  | op (i : Instr)
  /-- One operand byte: d8, a8, e8, or the byte STOP ignores. -/
  | imm8 (f : Byte → Instr)
  /-- Two operand bytes, low byte first: d16 or a16. -/
  | imm16 (f : Word → Instr)
  /-- 0xCB: one further byte selects from the extended table. -/
  | extended

/-- Row 0x of the primary map (R93, R95). -/
def primaryRow0 : List Entry := [
  .op .nop, .imm16 Instr.ld_BC_d16, .op .ld_mBC_A, .op .inc_BC,
  .op .inc_B, .op .dec_B, .imm8 Instr.ld_B_d8, .op .rlca,
  .imm16 Instr.ld_ma16_SP, .op .add_HL_BC, .op .ld_A_mBC, .op .dec_BC,
  .op .inc_C, .op .dec_C, .imm8 Instr.ld_C_d8, .op .rrca]

/-- Row 1x of the primary map (R93, R95). -/
def primaryRow1 : List Entry := [
  .imm8 Instr.stop, .imm16 Instr.ld_DE_d16, .op .ld_mDE_A, .op .inc_DE,
  .op .inc_D, .op .dec_D, .imm8 Instr.ld_D_d8, .op .rla,
  .imm8 Instr.jr_e8, .op .add_HL_DE, .op .ld_A_mDE, .op .dec_DE,
  .op .inc_E, .op .dec_E, .imm8 Instr.ld_E_d8, .op .rra]

/-- Row 2x of the primary map (R93, R95). -/
def primaryRow2 : List Entry := [
  .imm8 Instr.jr_NZ_e8, .imm16 Instr.ld_HL_d16, .op .ld_mHLi_A, .op .inc_HL,
  .op .inc_H, .op .dec_H, .imm8 Instr.ld_H_d8, .op .daa,
  .imm8 Instr.jr_Z_e8, .op .add_HL_HL, .op .ld_A_mHLi, .op .dec_HL,
  .op .inc_L, .op .dec_L, .imm8 Instr.ld_L_d8, .op .cpl]

/-- Row 3x of the primary map (R93, R95). -/
def primaryRow3 : List Entry := [
  .imm8 Instr.jr_NC_e8, .imm16 Instr.ld_SP_d16, .op .ld_mHLd_A, .op .inc_SP,
  .op .inc_mHL, .op .dec_mHL, .imm8 Instr.ld_mHL_d8, .op .scf,
  .imm8 Instr.jr_C_e8, .op .add_HL_SP, .op .ld_A_mHLd, .op .dec_SP,
  .op .inc_A, .op .dec_A, .imm8 Instr.ld_A_d8, .op .ccf]

/-- Row 4x of the primary map (R93, R95). -/
def primaryRow4 : List Entry := [
  .op .ld_B_B, .op .ld_B_C, .op .ld_B_D, .op .ld_B_E,
  .op .ld_B_H, .op .ld_B_L, .op .ld_B_mHL, .op .ld_B_A,
  .op .ld_C_B, .op .ld_C_C, .op .ld_C_D, .op .ld_C_E,
  .op .ld_C_H, .op .ld_C_L, .op .ld_C_mHL, .op .ld_C_A]

/-- Row 5x of the primary map (R93, R95). -/
def primaryRow5 : List Entry := [
  .op .ld_D_B, .op .ld_D_C, .op .ld_D_D, .op .ld_D_E,
  .op .ld_D_H, .op .ld_D_L, .op .ld_D_mHL, .op .ld_D_A,
  .op .ld_E_B, .op .ld_E_C, .op .ld_E_D, .op .ld_E_E,
  .op .ld_E_H, .op .ld_E_L, .op .ld_E_mHL, .op .ld_E_A]

/-- Row 6x of the primary map (R93, R95). -/
def primaryRow6 : List Entry := [
  .op .ld_H_B, .op .ld_H_C, .op .ld_H_D, .op .ld_H_E,
  .op .ld_H_H, .op .ld_H_L, .op .ld_H_mHL, .op .ld_H_A,
  .op .ld_L_B, .op .ld_L_C, .op .ld_L_D, .op .ld_L_E,
  .op .ld_L_H, .op .ld_L_L, .op .ld_L_mHL, .op .ld_L_A]

/-- Row 7x of the primary map (R93, R95). -/
def primaryRow7 : List Entry := [
  .op .ld_mHL_B, .op .ld_mHL_C, .op .ld_mHL_D, .op .ld_mHL_E,
  .op .ld_mHL_H, .op .ld_mHL_L, .op .halt, .op .ld_mHL_A,
  .op .ld_A_B, .op .ld_A_C, .op .ld_A_D, .op .ld_A_E,
  .op .ld_A_H, .op .ld_A_L, .op .ld_A_mHL, .op .ld_A_A]

/-- Row 8x of the primary map (R93, R95). -/
def primaryRow8 : List Entry := [
  .op .add_A_B, .op .add_A_C, .op .add_A_D, .op .add_A_E,
  .op .add_A_H, .op .add_A_L, .op .add_A_mHL, .op .add_A_A,
  .op .adc_A_B, .op .adc_A_C, .op .adc_A_D, .op .adc_A_E,
  .op .adc_A_H, .op .adc_A_L, .op .adc_A_mHL, .op .adc_A_A]

/-- Row 9x of the primary map (R93, R95). -/
def primaryRow9 : List Entry := [
  .op .sub_B, .op .sub_C, .op .sub_D, .op .sub_E,
  .op .sub_H, .op .sub_L, .op .sub_mHL, .op .sub_A,
  .op .sbc_A_B, .op .sbc_A_C, .op .sbc_A_D, .op .sbc_A_E,
  .op .sbc_A_H, .op .sbc_A_L, .op .sbc_A_mHL, .op .sbc_A_A]

/-- Row Ax of the primary map (R93, R95). -/
def primaryRowA : List Entry := [
  .op .and_B, .op .and_C, .op .and_D, .op .and_E,
  .op .and_H, .op .and_L, .op .and_mHL, .op .and_A,
  .op .xor_B, .op .xor_C, .op .xor_D, .op .xor_E,
  .op .xor_H, .op .xor_L, .op .xor_mHL, .op .xor_A]

/-- Row Bx of the primary map (R93, R95). -/
def primaryRowB : List Entry := [
  .op .or_B, .op .or_C, .op .or_D, .op .or_E,
  .op .or_H, .op .or_L, .op .or_mHL, .op .or_A,
  .op .cp_B, .op .cp_C, .op .cp_D, .op .cp_E,
  .op .cp_H, .op .cp_L, .op .cp_mHL, .op .cp_A]

/-- Row Cx of the primary map (R93, R95). -/
def primaryRowC : List Entry := [
  .op .ret_NZ, .op .pop_BC, .imm16 Instr.jp_NZ_a16, .imm16 Instr.jp_a16,
  .imm16 Instr.call_NZ_a16, .op .push_BC, .imm8 Instr.add_A_d8, .op .rst_00,
  .op .ret_Z, .op .ret, .imm16 Instr.jp_Z_a16, .extended,
  .imm16 Instr.call_Z_a16, .imm16 Instr.call_a16, .imm8 Instr.adc_A_d8, .op .rst_08]

/-- Row Dx of the primary map (R93, R95). -/
def primaryRowD : List Entry := [
  .op .ret_NC, .op .pop_DE, .imm16 Instr.jp_NC_a16, .op .illegal_D3,
  .imm16 Instr.call_NC_a16, .op .push_DE, .imm8 Instr.sub_d8, .op .rst_10,
  .op .ret_C, .op .reti, .imm16 Instr.jp_C_a16, .op .illegal_DB,
  .imm16 Instr.call_C_a16, .op .illegal_DD, .imm8 Instr.sbc_A_d8, .op .rst_18]

/-- Row Ex of the primary map (R93, R95). -/
def primaryRowE : List Entry := [
  .imm8 Instr.ldh_ma8_A, .op .pop_HL, .op .ld_mC_A, .op .illegal_E3,
  .op .illegal_E4, .op .push_HL, .imm8 Instr.and_d8, .op .rst_20,
  .imm8 Instr.add_SP_e8, .op .jp_HL, .imm16 Instr.ld_ma16_A, .op .illegal_EB,
  .op .illegal_EC, .op .illegal_ED, .imm8 Instr.xor_d8, .op .rst_28]

/-- Row Fx of the primary map (R93, R95). -/
def primaryRowF : List Entry := [
  .imm8 Instr.ldh_A_ma8, .op .pop_AF, .op .ld_A_mC, .op .di,
  .op .illegal_F4, .op .push_AF, .imm8 Instr.or_d8, .op .rst_30,
  .imm8 Instr.ld_HL_SPe8, .op .ld_SP_HL, .imm16 Instr.ld_A_ma16, .op .ei,
  .op .illegal_FC, .op .illegal_FD, .imm8 Instr.cp_d8, .op .rst_38]

/-- The 256-entry primary table, as sixteen rows of sixteen (R90, R93). -/
def primaryTable : List (List Entry) := [
  primaryRow0, primaryRow1, primaryRow2, primaryRow3,
  primaryRow4, primaryRow5, primaryRow6, primaryRow7,
  primaryRow8, primaryRow9, primaryRowA, primaryRowB,
  primaryRowC, primaryRowD, primaryRowE, primaryRowF]

/-- Row CB 0x of the extended map (R94). -/
def extendedRow0 : List Instr := [
  .rlc_B, .rlc_C, .rlc_D, .rlc_E, .rlc_H, .rlc_L, .rlc_mHL, .rlc_A,
  .rrc_B, .rrc_C, .rrc_D, .rrc_E, .rrc_H, .rrc_L, .rrc_mHL, .rrc_A]

/-- Row CB 1x of the extended map (R94). -/
def extendedRow1 : List Instr := [
  .rl_B, .rl_C, .rl_D, .rl_E, .rl_H, .rl_L, .rl_mHL, .rl_A,
  .rr_B, .rr_C, .rr_D, .rr_E, .rr_H, .rr_L, .rr_mHL, .rr_A]

/-- Row CB 2x of the extended map (R94). -/
def extendedRow2 : List Instr := [
  .sla_B, .sla_C, .sla_D, .sla_E, .sla_H, .sla_L, .sla_mHL, .sla_A,
  .sra_B, .sra_C, .sra_D, .sra_E, .sra_H, .sra_L, .sra_mHL, .sra_A]

/-- Row CB 3x of the extended map (R94). -/
def extendedRow3 : List Instr := [
  .swap_B, .swap_C, .swap_D, .swap_E, .swap_H, .swap_L, .swap_mHL, .swap_A,
  .srl_B, .srl_C, .srl_D, .srl_E, .srl_H, .srl_L, .srl_mHL, .srl_A]

/-- Row CB 4x of the extended map (R94). -/
def extendedRow4 : List Instr := [
  .bit_0_B, .bit_0_C, .bit_0_D, .bit_0_E, .bit_0_H, .bit_0_L, .bit_0_mHL, .bit_0_A,
  .bit_1_B, .bit_1_C, .bit_1_D, .bit_1_E, .bit_1_H, .bit_1_L, .bit_1_mHL, .bit_1_A]

/-- Row CB 5x of the extended map (R94). -/
def extendedRow5 : List Instr := [
  .bit_2_B, .bit_2_C, .bit_2_D, .bit_2_E, .bit_2_H, .bit_2_L, .bit_2_mHL, .bit_2_A,
  .bit_3_B, .bit_3_C, .bit_3_D, .bit_3_E, .bit_3_H, .bit_3_L, .bit_3_mHL, .bit_3_A]

/-- Row CB 6x of the extended map (R94). -/
def extendedRow6 : List Instr := [
  .bit_4_B, .bit_4_C, .bit_4_D, .bit_4_E, .bit_4_H, .bit_4_L, .bit_4_mHL, .bit_4_A,
  .bit_5_B, .bit_5_C, .bit_5_D, .bit_5_E, .bit_5_H, .bit_5_L, .bit_5_mHL, .bit_5_A]

/-- Row CB 7x of the extended map (R94). -/
def extendedRow7 : List Instr := [
  .bit_6_B, .bit_6_C, .bit_6_D, .bit_6_E, .bit_6_H, .bit_6_L, .bit_6_mHL, .bit_6_A,
  .bit_7_B, .bit_7_C, .bit_7_D, .bit_7_E, .bit_7_H, .bit_7_L, .bit_7_mHL, .bit_7_A]

/-- Row CB 8x of the extended map (R94). -/
def extendedRow8 : List Instr := [
  .res_0_B, .res_0_C, .res_0_D, .res_0_E, .res_0_H, .res_0_L, .res_0_mHL, .res_0_A,
  .res_1_B, .res_1_C, .res_1_D, .res_1_E, .res_1_H, .res_1_L, .res_1_mHL, .res_1_A]

/-- Row CB 9x of the extended map (R94). -/
def extendedRow9 : List Instr := [
  .res_2_B, .res_2_C, .res_2_D, .res_2_E, .res_2_H, .res_2_L, .res_2_mHL, .res_2_A,
  .res_3_B, .res_3_C, .res_3_D, .res_3_E, .res_3_H, .res_3_L, .res_3_mHL, .res_3_A]

/-- Row CB Ax of the extended map (R94). -/
def extendedRowA : List Instr := [
  .res_4_B, .res_4_C, .res_4_D, .res_4_E, .res_4_H, .res_4_L, .res_4_mHL, .res_4_A,
  .res_5_B, .res_5_C, .res_5_D, .res_5_E, .res_5_H, .res_5_L, .res_5_mHL, .res_5_A]

/-- Row CB Bx of the extended map (R94). -/
def extendedRowB : List Instr := [
  .res_6_B, .res_6_C, .res_6_D, .res_6_E, .res_6_H, .res_6_L, .res_6_mHL, .res_6_A,
  .res_7_B, .res_7_C, .res_7_D, .res_7_E, .res_7_H, .res_7_L, .res_7_mHL, .res_7_A]

/-- Row CB Cx of the extended map (R94). -/
def extendedRowC : List Instr := [
  .set_0_B, .set_0_C, .set_0_D, .set_0_E, .set_0_H, .set_0_L, .set_0_mHL, .set_0_A,
  .set_1_B, .set_1_C, .set_1_D, .set_1_E, .set_1_H, .set_1_L, .set_1_mHL, .set_1_A]

/-- Row CB Dx of the extended map (R94). -/
def extendedRowD : List Instr := [
  .set_2_B, .set_2_C, .set_2_D, .set_2_E, .set_2_H, .set_2_L, .set_2_mHL, .set_2_A,
  .set_3_B, .set_3_C, .set_3_D, .set_3_E, .set_3_H, .set_3_L, .set_3_mHL, .set_3_A]

/-- Row CB Ex of the extended map (R94). -/
def extendedRowE : List Instr := [
  .set_4_B, .set_4_C, .set_4_D, .set_4_E, .set_4_H, .set_4_L, .set_4_mHL, .set_4_A,
  .set_5_B, .set_5_C, .set_5_D, .set_5_E, .set_5_H, .set_5_L, .set_5_mHL, .set_5_A]

/-- Row CB Fx of the extended map (R94). -/
def extendedRowF : List Instr := [
  .set_6_B, .set_6_C, .set_6_D, .set_6_E, .set_6_H, .set_6_L, .set_6_mHL, .set_6_A,
  .set_7_B, .set_7_C, .set_7_D, .set_7_E, .set_7_H, .set_7_L, .set_7_mHL, .set_7_A]

/-- The 256-entry extended table, as sixteen rows of sixteen (R90, R94). -/
def extendedTable : List (List Instr) := [
  extendedRow0, extendedRow1, extendedRow2, extendedRow3,
  extendedRow4, extendedRow5, extendedRow6, extendedRow7,
  extendedRow8, extendedRow9, extendedRowA, extendedRowB,
  extendedRowC, extendedRowD, extendedRowE, extendedRowF]

/-- The primary table's slot for a first byte. The table has a slot for every byte. -/
def primary (op : Byte) : Entry := (primaryTable.getD (op.toNat / 16) []).getD (op.toNat % 16) (.op .nop)

/-- The extended table's slot for the byte after 0xCB. The table has a slot for every byte. -/
def extended (op2 : Byte) : Instr := (extendedTable.getD (op2.toNat / 16) []).getD (op2.toNat % 16) .nop

/-- The number of bytes of an instruction, from its first byte alone (R97). -/
def instrLength (op : Byte) : Nat :=
  match primary op with
  | .op _ => 1
  | .imm8 _ => 2
  | .imm16 _ => 3
  | .extended => 2

/-- Decoding is total on any bytes: the instruction that three bytes begin, whatever they are; a byte past the
instruction's length is not looked at (R90, R96). -/
def decodeBytes (b0 b1 b2 : Byte) : Instr :=
  match primary b0 with
  | .op i => i
  | .imm8 f => f b1
  | .imm16 f => f (wordOf b2 b1)
  | .extended => extended b1

/-- Why a byte list does not begin with a whole instruction. No byte is rejected: the eleven illegal ones are rows of
the table, with a constructor of their own (R95). -/
inductive DecodeError where
  /-- There is no byte at all. -/
  | empty
  /-- The first byte asks for `need` bytes and the list has `have_`. -/
  | truncated (need have_ : Nat)
  deriving DecidableEq, Repr

/-- The instruction at the head of a byte list, with the bytes after it. -/
def decode (bytes : List Byte) : Except DecodeError (Instr × List Byte) :=
  match bytes with
  | [] => .error .empty
  | b0 :: rest =>
    let n := instrLength b0
    if rest.length + 1 < n then .error (.truncated n (rest.length + 1))
    else .ok (decodeBytes b0 (rest.getD 0 0) (rest.getD 1 0), rest.drop (n - 1))

/-! ## The encoder -/

/-- The bytes of an instruction, lowest address first, written from the table's `match` column and the formats of
R80. -/
def encode (i : Instr) : List Byte :=
  match i with
  | .nop => [0x00#8]
  | .ld_BC_d16 d16 => [0x01#8, lowByte d16, highByte d16]
  | .ld_mBC_A => [0x02#8]
  | .inc_BC => [0x03#8]
  | .inc_B => [0x04#8]
  | .dec_B => [0x05#8]
  | .ld_B_d8 d8 => [0x06#8, d8]
  | .rlca => [0x07#8]
  | .ld_ma16_SP a16 => [0x08#8, lowByte a16, highByte a16]
  | .add_HL_BC => [0x09#8]
  | .ld_A_mBC => [0x0A#8]
  | .dec_BC => [0x0B#8]
  | .inc_C => [0x0C#8]
  | .dec_C => [0x0D#8]
  | .ld_C_d8 d8 => [0x0E#8, d8]
  | .rrca => [0x0F#8]
  | .stop ignored => [0x10#8, ignored]
  | .ld_DE_d16 d16 => [0x11#8, lowByte d16, highByte d16]
  | .ld_mDE_A => [0x12#8]
  | .inc_DE => [0x13#8]
  | .inc_D => [0x14#8]
  | .dec_D => [0x15#8]
  | .ld_D_d8 d8 => [0x16#8, d8]
  | .rla => [0x17#8]
  | .jr_e8 e8 => [0x18#8, e8]
  | .add_HL_DE => [0x19#8]
  | .ld_A_mDE => [0x1A#8]
  | .dec_DE => [0x1B#8]
  | .inc_E => [0x1C#8]
  | .dec_E => [0x1D#8]
  | .ld_E_d8 d8 => [0x1E#8, d8]
  | .rra => [0x1F#8]
  | .jr_NZ_e8 e8 => [0x20#8, e8]
  | .ld_HL_d16 d16 => [0x21#8, lowByte d16, highByte d16]
  | .ld_mHLi_A => [0x22#8]
  | .inc_HL => [0x23#8]
  | .inc_H => [0x24#8]
  | .dec_H => [0x25#8]
  | .ld_H_d8 d8 => [0x26#8, d8]
  | .daa => [0x27#8]
  | .jr_Z_e8 e8 => [0x28#8, e8]
  | .add_HL_HL => [0x29#8]
  | .ld_A_mHLi => [0x2A#8]
  | .dec_HL => [0x2B#8]
  | .inc_L => [0x2C#8]
  | .dec_L => [0x2D#8]
  | .ld_L_d8 d8 => [0x2E#8, d8]
  | .cpl => [0x2F#8]
  | .jr_NC_e8 e8 => [0x30#8, e8]
  | .ld_SP_d16 d16 => [0x31#8, lowByte d16, highByte d16]
  | .ld_mHLd_A => [0x32#8]
  | .inc_SP => [0x33#8]
  | .inc_mHL => [0x34#8]
  | .dec_mHL => [0x35#8]
  | .ld_mHL_d8 d8 => [0x36#8, d8]
  | .scf => [0x37#8]
  | .jr_C_e8 e8 => [0x38#8, e8]
  | .add_HL_SP => [0x39#8]
  | .ld_A_mHLd => [0x3A#8]
  | .dec_SP => [0x3B#8]
  | .inc_A => [0x3C#8]
  | .dec_A => [0x3D#8]
  | .ld_A_d8 d8 => [0x3E#8, d8]
  | .ccf => [0x3F#8]
  | .ld_B_B => [0x40#8]
  | .ld_B_C => [0x41#8]
  | .ld_B_D => [0x42#8]
  | .ld_B_E => [0x43#8]
  | .ld_B_H => [0x44#8]
  | .ld_B_L => [0x45#8]
  | .ld_B_mHL => [0x46#8]
  | .ld_B_A => [0x47#8]
  | .ld_C_B => [0x48#8]
  | .ld_C_C => [0x49#8]
  | .ld_C_D => [0x4A#8]
  | .ld_C_E => [0x4B#8]
  | .ld_C_H => [0x4C#8]
  | .ld_C_L => [0x4D#8]
  | .ld_C_mHL => [0x4E#8]
  | .ld_C_A => [0x4F#8]
  | .ld_D_B => [0x50#8]
  | .ld_D_C => [0x51#8]
  | .ld_D_D => [0x52#8]
  | .ld_D_E => [0x53#8]
  | .ld_D_H => [0x54#8]
  | .ld_D_L => [0x55#8]
  | .ld_D_mHL => [0x56#8]
  | .ld_D_A => [0x57#8]
  | .ld_E_B => [0x58#8]
  | .ld_E_C => [0x59#8]
  | .ld_E_D => [0x5A#8]
  | .ld_E_E => [0x5B#8]
  | .ld_E_H => [0x5C#8]
  | .ld_E_L => [0x5D#8]
  | .ld_E_mHL => [0x5E#8]
  | .ld_E_A => [0x5F#8]
  | .ld_H_B => [0x60#8]
  | .ld_H_C => [0x61#8]
  | .ld_H_D => [0x62#8]
  | .ld_H_E => [0x63#8]
  | .ld_H_H => [0x64#8]
  | .ld_H_L => [0x65#8]
  | .ld_H_mHL => [0x66#8]
  | .ld_H_A => [0x67#8]
  | .ld_L_B => [0x68#8]
  | .ld_L_C => [0x69#8]
  | .ld_L_D => [0x6A#8]
  | .ld_L_E => [0x6B#8]
  | .ld_L_H => [0x6C#8]
  | .ld_L_L => [0x6D#8]
  | .ld_L_mHL => [0x6E#8]
  | .ld_L_A => [0x6F#8]
  | .ld_mHL_B => [0x70#8]
  | .ld_mHL_C => [0x71#8]
  | .ld_mHL_D => [0x72#8]
  | .ld_mHL_E => [0x73#8]
  | .ld_mHL_H => [0x74#8]
  | .ld_mHL_L => [0x75#8]
  | .halt => [0x76#8]
  | .ld_mHL_A => [0x77#8]
  | .ld_A_B => [0x78#8]
  | .ld_A_C => [0x79#8]
  | .ld_A_D => [0x7A#8]
  | .ld_A_E => [0x7B#8]
  | .ld_A_H => [0x7C#8]
  | .ld_A_L => [0x7D#8]
  | .ld_A_mHL => [0x7E#8]
  | .ld_A_A => [0x7F#8]
  | .add_A_B => [0x80#8]
  | .add_A_C => [0x81#8]
  | .add_A_D => [0x82#8]
  | .add_A_E => [0x83#8]
  | .add_A_H => [0x84#8]
  | .add_A_L => [0x85#8]
  | .add_A_mHL => [0x86#8]
  | .add_A_A => [0x87#8]
  | .adc_A_B => [0x88#8]
  | .adc_A_C => [0x89#8]
  | .adc_A_D => [0x8A#8]
  | .adc_A_E => [0x8B#8]
  | .adc_A_H => [0x8C#8]
  | .adc_A_L => [0x8D#8]
  | .adc_A_mHL => [0x8E#8]
  | .adc_A_A => [0x8F#8]
  | .sub_B => [0x90#8]
  | .sub_C => [0x91#8]
  | .sub_D => [0x92#8]
  | .sub_E => [0x93#8]
  | .sub_H => [0x94#8]
  | .sub_L => [0x95#8]
  | .sub_mHL => [0x96#8]
  | .sub_A => [0x97#8]
  | .sbc_A_B => [0x98#8]
  | .sbc_A_C => [0x99#8]
  | .sbc_A_D => [0x9A#8]
  | .sbc_A_E => [0x9B#8]
  | .sbc_A_H => [0x9C#8]
  | .sbc_A_L => [0x9D#8]
  | .sbc_A_mHL => [0x9E#8]
  | .sbc_A_A => [0x9F#8]
  | .and_B => [0xA0#8]
  | .and_C => [0xA1#8]
  | .and_D => [0xA2#8]
  | .and_E => [0xA3#8]
  | .and_H => [0xA4#8]
  | .and_L => [0xA5#8]
  | .and_mHL => [0xA6#8]
  | .and_A => [0xA7#8]
  | .xor_B => [0xA8#8]
  | .xor_C => [0xA9#8]
  | .xor_D => [0xAA#8]
  | .xor_E => [0xAB#8]
  | .xor_H => [0xAC#8]
  | .xor_L => [0xAD#8]
  | .xor_mHL => [0xAE#8]
  | .xor_A => [0xAF#8]
  | .or_B => [0xB0#8]
  | .or_C => [0xB1#8]
  | .or_D => [0xB2#8]
  | .or_E => [0xB3#8]
  | .or_H => [0xB4#8]
  | .or_L => [0xB5#8]
  | .or_mHL => [0xB6#8]
  | .or_A => [0xB7#8]
  | .cp_B => [0xB8#8]
  | .cp_C => [0xB9#8]
  | .cp_D => [0xBA#8]
  | .cp_E => [0xBB#8]
  | .cp_H => [0xBC#8]
  | .cp_L => [0xBD#8]
  | .cp_mHL => [0xBE#8]
  | .cp_A => [0xBF#8]
  | .ret_NZ => [0xC0#8]
  | .pop_BC => [0xC1#8]
  | .jp_NZ_a16 a16 => [0xC2#8, lowByte a16, highByte a16]
  | .jp_a16 a16 => [0xC3#8, lowByte a16, highByte a16]
  | .call_NZ_a16 a16 => [0xC4#8, lowByte a16, highByte a16]
  | .push_BC => [0xC5#8]
  | .add_A_d8 d8 => [0xC6#8, d8]
  | .rst_00 => [0xC7#8]
  | .ret_Z => [0xC8#8]
  | .ret => [0xC9#8]
  | .jp_Z_a16 a16 => [0xCA#8, lowByte a16, highByte a16]
  | .call_Z_a16 a16 => [0xCC#8, lowByte a16, highByte a16]
  | .call_a16 a16 => [0xCD#8, lowByte a16, highByte a16]
  | .adc_A_d8 d8 => [0xCE#8, d8]
  | .rst_08 => [0xCF#8]
  | .ret_NC => [0xD0#8]
  | .pop_DE => [0xD1#8]
  | .jp_NC_a16 a16 => [0xD2#8, lowByte a16, highByte a16]
  | .illegal_D3 => [0xD3#8]
  | .call_NC_a16 a16 => [0xD4#8, lowByte a16, highByte a16]
  | .push_DE => [0xD5#8]
  | .sub_d8 d8 => [0xD6#8, d8]
  | .rst_10 => [0xD7#8]
  | .ret_C => [0xD8#8]
  | .reti => [0xD9#8]
  | .jp_C_a16 a16 => [0xDA#8, lowByte a16, highByte a16]
  | .illegal_DB => [0xDB#8]
  | .call_C_a16 a16 => [0xDC#8, lowByte a16, highByte a16]
  | .illegal_DD => [0xDD#8]
  | .sbc_A_d8 d8 => [0xDE#8, d8]
  | .rst_18 => [0xDF#8]
  | .ldh_ma8_A a8 => [0xE0#8, a8]
  | .pop_HL => [0xE1#8]
  | .ld_mC_A => [0xE2#8]
  | .illegal_E3 => [0xE3#8]
  | .illegal_E4 => [0xE4#8]
  | .push_HL => [0xE5#8]
  | .and_d8 d8 => [0xE6#8, d8]
  | .rst_20 => [0xE7#8]
  | .add_SP_e8 e8 => [0xE8#8, e8]
  | .jp_HL => [0xE9#8]
  | .ld_ma16_A a16 => [0xEA#8, lowByte a16, highByte a16]
  | .illegal_EB => [0xEB#8]
  | .illegal_EC => [0xEC#8]
  | .illegal_ED => [0xED#8]
  | .xor_d8 d8 => [0xEE#8, d8]
  | .rst_28 => [0xEF#8]
  | .ldh_A_ma8 a8 => [0xF0#8, a8]
  | .pop_AF => [0xF1#8]
  | .ld_A_mC => [0xF2#8]
  | .di => [0xF3#8]
  | .illegal_F4 => [0xF4#8]
  | .push_AF => [0xF5#8]
  | .or_d8 d8 => [0xF6#8, d8]
  | .rst_30 => [0xF7#8]
  | .ld_HL_SPe8 e8 => [0xF8#8, e8]
  | .ld_SP_HL => [0xF9#8]
  | .ld_A_ma16 a16 => [0xFA#8, lowByte a16, highByte a16]
  | .ei => [0xFB#8]
  | .illegal_FC => [0xFC#8]
  | .illegal_FD => [0xFD#8]
  | .cp_d8 d8 => [0xFE#8, d8]
  | .rst_38 => [0xFF#8]
  | .rlc_B => [0xCB#8, 0x00#8]
  | .rlc_C => [0xCB#8, 0x01#8]
  | .rlc_D => [0xCB#8, 0x02#8]
  | .rlc_E => [0xCB#8, 0x03#8]
  | .rlc_H => [0xCB#8, 0x04#8]
  | .rlc_L => [0xCB#8, 0x05#8]
  | .rlc_mHL => [0xCB#8, 0x06#8]
  | .rlc_A => [0xCB#8, 0x07#8]
  | .rrc_B => [0xCB#8, 0x08#8]
  | .rrc_C => [0xCB#8, 0x09#8]
  | .rrc_D => [0xCB#8, 0x0A#8]
  | .rrc_E => [0xCB#8, 0x0B#8]
  | .rrc_H => [0xCB#8, 0x0C#8]
  | .rrc_L => [0xCB#8, 0x0D#8]
  | .rrc_mHL => [0xCB#8, 0x0E#8]
  | .rrc_A => [0xCB#8, 0x0F#8]
  | .rl_B => [0xCB#8, 0x10#8]
  | .rl_C => [0xCB#8, 0x11#8]
  | .rl_D => [0xCB#8, 0x12#8]
  | .rl_E => [0xCB#8, 0x13#8]
  | .rl_H => [0xCB#8, 0x14#8]
  | .rl_L => [0xCB#8, 0x15#8]
  | .rl_mHL => [0xCB#8, 0x16#8]
  | .rl_A => [0xCB#8, 0x17#8]
  | .rr_B => [0xCB#8, 0x18#8]
  | .rr_C => [0xCB#8, 0x19#8]
  | .rr_D => [0xCB#8, 0x1A#8]
  | .rr_E => [0xCB#8, 0x1B#8]
  | .rr_H => [0xCB#8, 0x1C#8]
  | .rr_L => [0xCB#8, 0x1D#8]
  | .rr_mHL => [0xCB#8, 0x1E#8]
  | .rr_A => [0xCB#8, 0x1F#8]
  | .sla_B => [0xCB#8, 0x20#8]
  | .sla_C => [0xCB#8, 0x21#8]
  | .sla_D => [0xCB#8, 0x22#8]
  | .sla_E => [0xCB#8, 0x23#8]
  | .sla_H => [0xCB#8, 0x24#8]
  | .sla_L => [0xCB#8, 0x25#8]
  | .sla_mHL => [0xCB#8, 0x26#8]
  | .sla_A => [0xCB#8, 0x27#8]
  | .sra_B => [0xCB#8, 0x28#8]
  | .sra_C => [0xCB#8, 0x29#8]
  | .sra_D => [0xCB#8, 0x2A#8]
  | .sra_E => [0xCB#8, 0x2B#8]
  | .sra_H => [0xCB#8, 0x2C#8]
  | .sra_L => [0xCB#8, 0x2D#8]
  | .sra_mHL => [0xCB#8, 0x2E#8]
  | .sra_A => [0xCB#8, 0x2F#8]
  | .swap_B => [0xCB#8, 0x30#8]
  | .swap_C => [0xCB#8, 0x31#8]
  | .swap_D => [0xCB#8, 0x32#8]
  | .swap_E => [0xCB#8, 0x33#8]
  | .swap_H => [0xCB#8, 0x34#8]
  | .swap_L => [0xCB#8, 0x35#8]
  | .swap_mHL => [0xCB#8, 0x36#8]
  | .swap_A => [0xCB#8, 0x37#8]
  | .srl_B => [0xCB#8, 0x38#8]
  | .srl_C => [0xCB#8, 0x39#8]
  | .srl_D => [0xCB#8, 0x3A#8]
  | .srl_E => [0xCB#8, 0x3B#8]
  | .srl_H => [0xCB#8, 0x3C#8]
  | .srl_L => [0xCB#8, 0x3D#8]
  | .srl_mHL => [0xCB#8, 0x3E#8]
  | .srl_A => [0xCB#8, 0x3F#8]
  | .bit_0_B => [0xCB#8, 0x40#8]
  | .bit_0_C => [0xCB#8, 0x41#8]
  | .bit_0_D => [0xCB#8, 0x42#8]
  | .bit_0_E => [0xCB#8, 0x43#8]
  | .bit_0_H => [0xCB#8, 0x44#8]
  | .bit_0_L => [0xCB#8, 0x45#8]
  | .bit_0_mHL => [0xCB#8, 0x46#8]
  | .bit_0_A => [0xCB#8, 0x47#8]
  | .bit_1_B => [0xCB#8, 0x48#8]
  | .bit_1_C => [0xCB#8, 0x49#8]
  | .bit_1_D => [0xCB#8, 0x4A#8]
  | .bit_1_E => [0xCB#8, 0x4B#8]
  | .bit_1_H => [0xCB#8, 0x4C#8]
  | .bit_1_L => [0xCB#8, 0x4D#8]
  | .bit_1_mHL => [0xCB#8, 0x4E#8]
  | .bit_1_A => [0xCB#8, 0x4F#8]
  | .bit_2_B => [0xCB#8, 0x50#8]
  | .bit_2_C => [0xCB#8, 0x51#8]
  | .bit_2_D => [0xCB#8, 0x52#8]
  | .bit_2_E => [0xCB#8, 0x53#8]
  | .bit_2_H => [0xCB#8, 0x54#8]
  | .bit_2_L => [0xCB#8, 0x55#8]
  | .bit_2_mHL => [0xCB#8, 0x56#8]
  | .bit_2_A => [0xCB#8, 0x57#8]
  | .bit_3_B => [0xCB#8, 0x58#8]
  | .bit_3_C => [0xCB#8, 0x59#8]
  | .bit_3_D => [0xCB#8, 0x5A#8]
  | .bit_3_E => [0xCB#8, 0x5B#8]
  | .bit_3_H => [0xCB#8, 0x5C#8]
  | .bit_3_L => [0xCB#8, 0x5D#8]
  | .bit_3_mHL => [0xCB#8, 0x5E#8]
  | .bit_3_A => [0xCB#8, 0x5F#8]
  | .bit_4_B => [0xCB#8, 0x60#8]
  | .bit_4_C => [0xCB#8, 0x61#8]
  | .bit_4_D => [0xCB#8, 0x62#8]
  | .bit_4_E => [0xCB#8, 0x63#8]
  | .bit_4_H => [0xCB#8, 0x64#8]
  | .bit_4_L => [0xCB#8, 0x65#8]
  | .bit_4_mHL => [0xCB#8, 0x66#8]
  | .bit_4_A => [0xCB#8, 0x67#8]
  | .bit_5_B => [0xCB#8, 0x68#8]
  | .bit_5_C => [0xCB#8, 0x69#8]
  | .bit_5_D => [0xCB#8, 0x6A#8]
  | .bit_5_E => [0xCB#8, 0x6B#8]
  | .bit_5_H => [0xCB#8, 0x6C#8]
  | .bit_5_L => [0xCB#8, 0x6D#8]
  | .bit_5_mHL => [0xCB#8, 0x6E#8]
  | .bit_5_A => [0xCB#8, 0x6F#8]
  | .bit_6_B => [0xCB#8, 0x70#8]
  | .bit_6_C => [0xCB#8, 0x71#8]
  | .bit_6_D => [0xCB#8, 0x72#8]
  | .bit_6_E => [0xCB#8, 0x73#8]
  | .bit_6_H => [0xCB#8, 0x74#8]
  | .bit_6_L => [0xCB#8, 0x75#8]
  | .bit_6_mHL => [0xCB#8, 0x76#8]
  | .bit_6_A => [0xCB#8, 0x77#8]
  | .bit_7_B => [0xCB#8, 0x78#8]
  | .bit_7_C => [0xCB#8, 0x79#8]
  | .bit_7_D => [0xCB#8, 0x7A#8]
  | .bit_7_E => [0xCB#8, 0x7B#8]
  | .bit_7_H => [0xCB#8, 0x7C#8]
  | .bit_7_L => [0xCB#8, 0x7D#8]
  | .bit_7_mHL => [0xCB#8, 0x7E#8]
  | .bit_7_A => [0xCB#8, 0x7F#8]
  | .res_0_B => [0xCB#8, 0x80#8]
  | .res_0_C => [0xCB#8, 0x81#8]
  | .res_0_D => [0xCB#8, 0x82#8]
  | .res_0_E => [0xCB#8, 0x83#8]
  | .res_0_H => [0xCB#8, 0x84#8]
  | .res_0_L => [0xCB#8, 0x85#8]
  | .res_0_mHL => [0xCB#8, 0x86#8]
  | .res_0_A => [0xCB#8, 0x87#8]
  | .res_1_B => [0xCB#8, 0x88#8]
  | .res_1_C => [0xCB#8, 0x89#8]
  | .res_1_D => [0xCB#8, 0x8A#8]
  | .res_1_E => [0xCB#8, 0x8B#8]
  | .res_1_H => [0xCB#8, 0x8C#8]
  | .res_1_L => [0xCB#8, 0x8D#8]
  | .res_1_mHL => [0xCB#8, 0x8E#8]
  | .res_1_A => [0xCB#8, 0x8F#8]
  | .res_2_B => [0xCB#8, 0x90#8]
  | .res_2_C => [0xCB#8, 0x91#8]
  | .res_2_D => [0xCB#8, 0x92#8]
  | .res_2_E => [0xCB#8, 0x93#8]
  | .res_2_H => [0xCB#8, 0x94#8]
  | .res_2_L => [0xCB#8, 0x95#8]
  | .res_2_mHL => [0xCB#8, 0x96#8]
  | .res_2_A => [0xCB#8, 0x97#8]
  | .res_3_B => [0xCB#8, 0x98#8]
  | .res_3_C => [0xCB#8, 0x99#8]
  | .res_3_D => [0xCB#8, 0x9A#8]
  | .res_3_E => [0xCB#8, 0x9B#8]
  | .res_3_H => [0xCB#8, 0x9C#8]
  | .res_3_L => [0xCB#8, 0x9D#8]
  | .res_3_mHL => [0xCB#8, 0x9E#8]
  | .res_3_A => [0xCB#8, 0x9F#8]
  | .res_4_B => [0xCB#8, 0xA0#8]
  | .res_4_C => [0xCB#8, 0xA1#8]
  | .res_4_D => [0xCB#8, 0xA2#8]
  | .res_4_E => [0xCB#8, 0xA3#8]
  | .res_4_H => [0xCB#8, 0xA4#8]
  | .res_4_L => [0xCB#8, 0xA5#8]
  | .res_4_mHL => [0xCB#8, 0xA6#8]
  | .res_4_A => [0xCB#8, 0xA7#8]
  | .res_5_B => [0xCB#8, 0xA8#8]
  | .res_5_C => [0xCB#8, 0xA9#8]
  | .res_5_D => [0xCB#8, 0xAA#8]
  | .res_5_E => [0xCB#8, 0xAB#8]
  | .res_5_H => [0xCB#8, 0xAC#8]
  | .res_5_L => [0xCB#8, 0xAD#8]
  | .res_5_mHL => [0xCB#8, 0xAE#8]
  | .res_5_A => [0xCB#8, 0xAF#8]
  | .res_6_B => [0xCB#8, 0xB0#8]
  | .res_6_C => [0xCB#8, 0xB1#8]
  | .res_6_D => [0xCB#8, 0xB2#8]
  | .res_6_E => [0xCB#8, 0xB3#8]
  | .res_6_H => [0xCB#8, 0xB4#8]
  | .res_6_L => [0xCB#8, 0xB5#8]
  | .res_6_mHL => [0xCB#8, 0xB6#8]
  | .res_6_A => [0xCB#8, 0xB7#8]
  | .res_7_B => [0xCB#8, 0xB8#8]
  | .res_7_C => [0xCB#8, 0xB9#8]
  | .res_7_D => [0xCB#8, 0xBA#8]
  | .res_7_E => [0xCB#8, 0xBB#8]
  | .res_7_H => [0xCB#8, 0xBC#8]
  | .res_7_L => [0xCB#8, 0xBD#8]
  | .res_7_mHL => [0xCB#8, 0xBE#8]
  | .res_7_A => [0xCB#8, 0xBF#8]
  | .set_0_B => [0xCB#8, 0xC0#8]
  | .set_0_C => [0xCB#8, 0xC1#8]
  | .set_0_D => [0xCB#8, 0xC2#8]
  | .set_0_E => [0xCB#8, 0xC3#8]
  | .set_0_H => [0xCB#8, 0xC4#8]
  | .set_0_L => [0xCB#8, 0xC5#8]
  | .set_0_mHL => [0xCB#8, 0xC6#8]
  | .set_0_A => [0xCB#8, 0xC7#8]
  | .set_1_B => [0xCB#8, 0xC8#8]
  | .set_1_C => [0xCB#8, 0xC9#8]
  | .set_1_D => [0xCB#8, 0xCA#8]
  | .set_1_E => [0xCB#8, 0xCB#8]
  | .set_1_H => [0xCB#8, 0xCC#8]
  | .set_1_L => [0xCB#8, 0xCD#8]
  | .set_1_mHL => [0xCB#8, 0xCE#8]
  | .set_1_A => [0xCB#8, 0xCF#8]
  | .set_2_B => [0xCB#8, 0xD0#8]
  | .set_2_C => [0xCB#8, 0xD1#8]
  | .set_2_D => [0xCB#8, 0xD2#8]
  | .set_2_E => [0xCB#8, 0xD3#8]
  | .set_2_H => [0xCB#8, 0xD4#8]
  | .set_2_L => [0xCB#8, 0xD5#8]
  | .set_2_mHL => [0xCB#8, 0xD6#8]
  | .set_2_A => [0xCB#8, 0xD7#8]
  | .set_3_B => [0xCB#8, 0xD8#8]
  | .set_3_C => [0xCB#8, 0xD9#8]
  | .set_3_D => [0xCB#8, 0xDA#8]
  | .set_3_E => [0xCB#8, 0xDB#8]
  | .set_3_H => [0xCB#8, 0xDC#8]
  | .set_3_L => [0xCB#8, 0xDD#8]
  | .set_3_mHL => [0xCB#8, 0xDE#8]
  | .set_3_A => [0xCB#8, 0xDF#8]
  | .set_4_B => [0xCB#8, 0xE0#8]
  | .set_4_C => [0xCB#8, 0xE1#8]
  | .set_4_D => [0xCB#8, 0xE2#8]
  | .set_4_E => [0xCB#8, 0xE3#8]
  | .set_4_H => [0xCB#8, 0xE4#8]
  | .set_4_L => [0xCB#8, 0xE5#8]
  | .set_4_mHL => [0xCB#8, 0xE6#8]
  | .set_4_A => [0xCB#8, 0xE7#8]
  | .set_5_B => [0xCB#8, 0xE8#8]
  | .set_5_C => [0xCB#8, 0xE9#8]
  | .set_5_D => [0xCB#8, 0xEA#8]
  | .set_5_E => [0xCB#8, 0xEB#8]
  | .set_5_H => [0xCB#8, 0xEC#8]
  | .set_5_L => [0xCB#8, 0xED#8]
  | .set_5_mHL => [0xCB#8, 0xEE#8]
  | .set_5_A => [0xCB#8, 0xEF#8]
  | .set_6_B => [0xCB#8, 0xF0#8]
  | .set_6_C => [0xCB#8, 0xF1#8]
  | .set_6_D => [0xCB#8, 0xF2#8]
  | .set_6_E => [0xCB#8, 0xF3#8]
  | .set_6_H => [0xCB#8, 0xF4#8]
  | .set_6_L => [0xCB#8, 0xF5#8]
  | .set_6_mHL => [0xCB#8, 0xF6#8]
  | .set_6_A => [0xCB#8, 0xF7#8]
  | .set_7_B => [0xCB#8, 0xF8#8]
  | .set_7_C => [0xCB#8, 0xF9#8]
  | .set_7_D => [0xCB#8, 0xFA#8]
  | .set_7_E => [0xCB#8, 0xFB#8]
  | .set_7_H => [0xCB#8, 0xFC#8]
  | .set_7_L => [0xCB#8, 0xFD#8]
  | .set_7_mHL => [0xCB#8, 0xFE#8]
  | .set_7_A => [0xCB#8, 0xFF#8]

/-! ## Field codes (R82 to R87) -/

/-- R82: the 3-bit code of a register operand. -/
def Reg8.code : Reg8 → BitVec 3
  | .B => 0 | .C => 1 | .D => 2 | .E => 3 | .H => 4 | .L => 5 | .A => 7

/-- R83: the 2-bit code of a pair. -/
def Reg16.code : Reg16 → BitVec 2
  | .BC => 0 | .DE => 1 | .HL => 2 | .SP => 3

/-- R84: the 2-bit code of a stack pair. -/
def StackPair.code : StackPair → BitVec 2
  | .BC => 0 | .DE => 1 | .HL => 2 | .AF => 3

/-- R85: the 2-bit code of a condition. -/
def Cond.code : Cond → BitVec 2
  | .NZ => 0 | .Z => 1 | .NC => 2 | .C => 3

/-- R86: the 3-bit code of an ALU operation. -/
def AluOp.code : AluOp → BitVec 3
  | .ADD => 0 | .ADC => 1 | .SUB => 2 | .SBC => 3 | .AND => 4 | .XOR => 5 | .OR => 6 | .CP => 7

/-- R87: the 3-bit code of a rotate or shift. -/
def RotOp.code : RotOp → BitVec 3
  | .RLC => 0 | .RRC => 1 | .RL => 2 | .RR => 3 | .SLA => 4 | .SRA => 5 | .SWAP => 6 | .SRL => 7

/-- The number a 3-bit index names. -/
def Idx3.toNat : Idx3 → Nat
  | .i0 => 0 | .i1 => 1 | .i2 => 2 | .i3 => 3 | .i4 => 4 | .i5 => 5 | .i6 => 6 | .i7 => 7

/-- The 3-bit code of an index. -/
def Idx3.code (k : Idx3) : BitVec 3 := BitVec.ofNat 3 k.toNat

/-- The byte an illegal row stands for (R95). -/
def IllegalByte.byte : IllegalByte → Byte
  | .xD3 => 0xD3#8
  | .xDB => 0xDB#8
  | .xDD => 0xDD#8
  | .xE3 => 0xE3#8
  | .xE4 => 0xE4#8
  | .xEB => 0xEB#8
  | .xEC => 0xEC#8
  | .xED => 0xED#8
  | .xF4 => 0xF4#8
  | .xFC => 0xFC#8
  | .xFD => 0xFD#8

/-! ## The views between `Instr` and `Form` -/

/-- The form of an instruction: which rule's instruction it is, and its operands. -/
def Instr.form (i : Instr) : Form :=
  match i with
  | .nop => .nop
  | .ld_BC_d16 d16 => .ldPairImm .BC d16
  | .ld_mBC_A => .ldBCA
  | .inc_BC => .incPair .BC
  | .inc_B => .incReg .B
  | .dec_B => .decReg .B
  | .ld_B_d8 d8 => .ldRegImm .B d8
  | .rlca => .rlca
  | .ld_ma16_SP a16 => .ldAddrSP a16
  | .add_HL_BC => .addHL .BC
  | .ld_A_mBC => .ldABC
  | .dec_BC => .decPair .BC
  | .inc_C => .incReg .C
  | .dec_C => .decReg .C
  | .ld_C_d8 d8 => .ldRegImm .C d8
  | .rrca => .rrca
  | .stop ignored => .stop ignored
  | .ld_DE_d16 d16 => .ldPairImm .DE d16
  | .ld_mDE_A => .ldDEA
  | .inc_DE => .incPair .DE
  | .inc_D => .incReg .D
  | .dec_D => .decReg .D
  | .ld_D_d8 d8 => .ldRegImm .D d8
  | .rla => .rla
  | .jr_e8 e8 => .jr e8
  | .add_HL_DE => .addHL .DE
  | .ld_A_mDE => .ldADE
  | .dec_DE => .decPair .DE
  | .inc_E => .incReg .E
  | .dec_E => .decReg .E
  | .ld_E_d8 d8 => .ldRegImm .E d8
  | .rra => .rra
  | .jr_NZ_e8 e8 => .jrCond .NZ e8
  | .ld_HL_d16 d16 => .ldPairImm .HL d16
  | .ld_mHLi_A => .ldHLIncA
  | .inc_HL => .incPair .HL
  | .inc_H => .incReg .H
  | .dec_H => .decReg .H
  | .ld_H_d8 d8 => .ldRegImm .H d8
  | .daa => .daa
  | .jr_Z_e8 e8 => .jrCond .Z e8
  | .add_HL_HL => .addHL .HL
  | .ld_A_mHLi => .ldAHLInc
  | .dec_HL => .decPair .HL
  | .inc_L => .incReg .L
  | .dec_L => .decReg .L
  | .ld_L_d8 d8 => .ldRegImm .L d8
  | .cpl => .cpl
  | .jr_NC_e8 e8 => .jrCond .NC e8
  | .ld_SP_d16 d16 => .ldPairImm .SP d16
  | .ld_mHLd_A => .ldHLDecA
  | .inc_SP => .incPair .SP
  | .inc_mHL => .incHL
  | .dec_mHL => .decHL
  | .ld_mHL_d8 d8 => .ldHLImm d8
  | .scf => .scf
  | .jr_C_e8 e8 => .jrCond .C e8
  | .add_HL_SP => .addHL .SP
  | .ld_A_mHLd => .ldAHLDec
  | .dec_SP => .decPair .SP
  | .inc_A => .incReg .A
  | .dec_A => .decReg .A
  | .ld_A_d8 d8 => .ldRegImm .A d8
  | .ccf => .ccf
  | .ld_B_B => .ldRegReg .B .B
  | .ld_B_C => .ldRegReg .B .C
  | .ld_B_D => .ldRegReg .B .D
  | .ld_B_E => .ldRegReg .B .E
  | .ld_B_H => .ldRegReg .B .H
  | .ld_B_L => .ldRegReg .B .L
  | .ld_B_mHL => .ldRegHL .B
  | .ld_B_A => .ldRegReg .B .A
  | .ld_C_B => .ldRegReg .C .B
  | .ld_C_C => .ldRegReg .C .C
  | .ld_C_D => .ldRegReg .C .D
  | .ld_C_E => .ldRegReg .C .E
  | .ld_C_H => .ldRegReg .C .H
  | .ld_C_L => .ldRegReg .C .L
  | .ld_C_mHL => .ldRegHL .C
  | .ld_C_A => .ldRegReg .C .A
  | .ld_D_B => .ldRegReg .D .B
  | .ld_D_C => .ldRegReg .D .C
  | .ld_D_D => .ldRegReg .D .D
  | .ld_D_E => .ldRegReg .D .E
  | .ld_D_H => .ldRegReg .D .H
  | .ld_D_L => .ldRegReg .D .L
  | .ld_D_mHL => .ldRegHL .D
  | .ld_D_A => .ldRegReg .D .A
  | .ld_E_B => .ldRegReg .E .B
  | .ld_E_C => .ldRegReg .E .C
  | .ld_E_D => .ldRegReg .E .D
  | .ld_E_E => .ldRegReg .E .E
  | .ld_E_H => .ldRegReg .E .H
  | .ld_E_L => .ldRegReg .E .L
  | .ld_E_mHL => .ldRegHL .E
  | .ld_E_A => .ldRegReg .E .A
  | .ld_H_B => .ldRegReg .H .B
  | .ld_H_C => .ldRegReg .H .C
  | .ld_H_D => .ldRegReg .H .D
  | .ld_H_E => .ldRegReg .H .E
  | .ld_H_H => .ldRegReg .H .H
  | .ld_H_L => .ldRegReg .H .L
  | .ld_H_mHL => .ldRegHL .H
  | .ld_H_A => .ldRegReg .H .A
  | .ld_L_B => .ldRegReg .L .B
  | .ld_L_C => .ldRegReg .L .C
  | .ld_L_D => .ldRegReg .L .D
  | .ld_L_E => .ldRegReg .L .E
  | .ld_L_H => .ldRegReg .L .H
  | .ld_L_L => .ldRegReg .L .L
  | .ld_L_mHL => .ldRegHL .L
  | .ld_L_A => .ldRegReg .L .A
  | .ld_mHL_B => .ldHLReg .B
  | .ld_mHL_C => .ldHLReg .C
  | .ld_mHL_D => .ldHLReg .D
  | .ld_mHL_E => .ldHLReg .E
  | .ld_mHL_H => .ldHLReg .H
  | .ld_mHL_L => .ldHLReg .L
  | .halt => .halt
  | .ld_mHL_A => .ldHLReg .A
  | .ld_A_B => .ldRegReg .A .B
  | .ld_A_C => .ldRegReg .A .C
  | .ld_A_D => .ldRegReg .A .D
  | .ld_A_E => .ldRegReg .A .E
  | .ld_A_H => .ldRegReg .A .H
  | .ld_A_L => .ldRegReg .A .L
  | .ld_A_mHL => .ldRegHL .A
  | .ld_A_A => .ldRegReg .A .A
  | .add_A_B => .aluReg .ADD .B
  | .add_A_C => .aluReg .ADD .C
  | .add_A_D => .aluReg .ADD .D
  | .add_A_E => .aluReg .ADD .E
  | .add_A_H => .aluReg .ADD .H
  | .add_A_L => .aluReg .ADD .L
  | .add_A_mHL => .aluHL .ADD
  | .add_A_A => .aluReg .ADD .A
  | .adc_A_B => .aluReg .ADC .B
  | .adc_A_C => .aluReg .ADC .C
  | .adc_A_D => .aluReg .ADC .D
  | .adc_A_E => .aluReg .ADC .E
  | .adc_A_H => .aluReg .ADC .H
  | .adc_A_L => .aluReg .ADC .L
  | .adc_A_mHL => .aluHL .ADC
  | .adc_A_A => .aluReg .ADC .A
  | .sub_B => .aluReg .SUB .B
  | .sub_C => .aluReg .SUB .C
  | .sub_D => .aluReg .SUB .D
  | .sub_E => .aluReg .SUB .E
  | .sub_H => .aluReg .SUB .H
  | .sub_L => .aluReg .SUB .L
  | .sub_mHL => .aluHL .SUB
  | .sub_A => .aluReg .SUB .A
  | .sbc_A_B => .aluReg .SBC .B
  | .sbc_A_C => .aluReg .SBC .C
  | .sbc_A_D => .aluReg .SBC .D
  | .sbc_A_E => .aluReg .SBC .E
  | .sbc_A_H => .aluReg .SBC .H
  | .sbc_A_L => .aluReg .SBC .L
  | .sbc_A_mHL => .aluHL .SBC
  | .sbc_A_A => .aluReg .SBC .A
  | .and_B => .aluReg .AND .B
  | .and_C => .aluReg .AND .C
  | .and_D => .aluReg .AND .D
  | .and_E => .aluReg .AND .E
  | .and_H => .aluReg .AND .H
  | .and_L => .aluReg .AND .L
  | .and_mHL => .aluHL .AND
  | .and_A => .aluReg .AND .A
  | .xor_B => .aluReg .XOR .B
  | .xor_C => .aluReg .XOR .C
  | .xor_D => .aluReg .XOR .D
  | .xor_E => .aluReg .XOR .E
  | .xor_H => .aluReg .XOR .H
  | .xor_L => .aluReg .XOR .L
  | .xor_mHL => .aluHL .XOR
  | .xor_A => .aluReg .XOR .A
  | .or_B => .aluReg .OR .B
  | .or_C => .aluReg .OR .C
  | .or_D => .aluReg .OR .D
  | .or_E => .aluReg .OR .E
  | .or_H => .aluReg .OR .H
  | .or_L => .aluReg .OR .L
  | .or_mHL => .aluHL .OR
  | .or_A => .aluReg .OR .A
  | .cp_B => .aluReg .CP .B
  | .cp_C => .aluReg .CP .C
  | .cp_D => .aluReg .CP .D
  | .cp_E => .aluReg .CP .E
  | .cp_H => .aluReg .CP .H
  | .cp_L => .aluReg .CP .L
  | .cp_mHL => .aluHL .CP
  | .cp_A => .aluReg .CP .A
  | .ret_NZ => .retCond .NZ
  | .pop_BC => .pop .BC
  | .jp_NZ_a16 a16 => .jpCond .NZ a16
  | .jp_a16 a16 => .jp a16
  | .call_NZ_a16 a16 => .callCond .NZ a16
  | .push_BC => .push .BC
  | .add_A_d8 d8 => .aluImm .ADD d8
  | .rst_00 => .rst .i0
  | .ret_Z => .retCond .Z
  | .ret => .ret
  | .jp_Z_a16 a16 => .jpCond .Z a16
  | .call_Z_a16 a16 => .callCond .Z a16
  | .call_a16 a16 => .call a16
  | .adc_A_d8 d8 => .aluImm .ADC d8
  | .rst_08 => .rst .i1
  | .ret_NC => .retCond .NC
  | .pop_DE => .pop .DE
  | .jp_NC_a16 a16 => .jpCond .NC a16
  | .illegal_D3 => .illegal .xD3
  | .call_NC_a16 a16 => .callCond .NC a16
  | .push_DE => .push .DE
  | .sub_d8 d8 => .aluImm .SUB d8
  | .rst_10 => .rst .i2
  | .ret_C => .retCond .C
  | .reti => .reti
  | .jp_C_a16 a16 => .jpCond .C a16
  | .illegal_DB => .illegal .xDB
  | .call_C_a16 a16 => .callCond .C a16
  | .illegal_DD => .illegal .xDD
  | .sbc_A_d8 d8 => .aluImm .SBC d8
  | .rst_18 => .rst .i3
  | .ldh_ma8_A a8 => .ldhAddrA a8
  | .pop_HL => .pop .HL
  | .ld_mC_A => .ldCA
  | .illegal_E3 => .illegal .xE3
  | .illegal_E4 => .illegal .xE4
  | .push_HL => .push .HL
  | .and_d8 d8 => .aluImm .AND d8
  | .rst_20 => .rst .i4
  | .add_SP_e8 e8 => .addSP e8
  | .jp_HL => .jpHL
  | .ld_ma16_A a16 => .ldAddrA a16
  | .illegal_EB => .illegal .xEB
  | .illegal_EC => .illegal .xEC
  | .illegal_ED => .illegal .xED
  | .xor_d8 d8 => .aluImm .XOR d8
  | .rst_28 => .rst .i5
  | .ldh_A_ma8 a8 => .ldhAAddr a8
  | .pop_AF => .pop .AF
  | .ld_A_mC => .ldAC
  | .di => .di
  | .illegal_F4 => .illegal .xF4
  | .push_AF => .push .AF
  | .or_d8 d8 => .aluImm .OR d8
  | .rst_30 => .rst .i6
  | .ld_HL_SPe8 e8 => .ldHLSP e8
  | .ld_SP_HL => .ldSPHL
  | .ld_A_ma16 a16 => .ldAAddr a16
  | .ei => .ei
  | .illegal_FC => .illegal .xFC
  | .illegal_FD => .illegal .xFD
  | .cp_d8 d8 => .aluImm .CP d8
  | .rst_38 => .rst .i7
  | .rlc_B => .rotReg .RLC .B
  | .rlc_C => .rotReg .RLC .C
  | .rlc_D => .rotReg .RLC .D
  | .rlc_E => .rotReg .RLC .E
  | .rlc_H => .rotReg .RLC .H
  | .rlc_L => .rotReg .RLC .L
  | .rlc_mHL => .rotHL .RLC
  | .rlc_A => .rotReg .RLC .A
  | .rrc_B => .rotReg .RRC .B
  | .rrc_C => .rotReg .RRC .C
  | .rrc_D => .rotReg .RRC .D
  | .rrc_E => .rotReg .RRC .E
  | .rrc_H => .rotReg .RRC .H
  | .rrc_L => .rotReg .RRC .L
  | .rrc_mHL => .rotHL .RRC
  | .rrc_A => .rotReg .RRC .A
  | .rl_B => .rotReg .RL .B
  | .rl_C => .rotReg .RL .C
  | .rl_D => .rotReg .RL .D
  | .rl_E => .rotReg .RL .E
  | .rl_H => .rotReg .RL .H
  | .rl_L => .rotReg .RL .L
  | .rl_mHL => .rotHL .RL
  | .rl_A => .rotReg .RL .A
  | .rr_B => .rotReg .RR .B
  | .rr_C => .rotReg .RR .C
  | .rr_D => .rotReg .RR .D
  | .rr_E => .rotReg .RR .E
  | .rr_H => .rotReg .RR .H
  | .rr_L => .rotReg .RR .L
  | .rr_mHL => .rotHL .RR
  | .rr_A => .rotReg .RR .A
  | .sla_B => .rotReg .SLA .B
  | .sla_C => .rotReg .SLA .C
  | .sla_D => .rotReg .SLA .D
  | .sla_E => .rotReg .SLA .E
  | .sla_H => .rotReg .SLA .H
  | .sla_L => .rotReg .SLA .L
  | .sla_mHL => .rotHL .SLA
  | .sla_A => .rotReg .SLA .A
  | .sra_B => .rotReg .SRA .B
  | .sra_C => .rotReg .SRA .C
  | .sra_D => .rotReg .SRA .D
  | .sra_E => .rotReg .SRA .E
  | .sra_H => .rotReg .SRA .H
  | .sra_L => .rotReg .SRA .L
  | .sra_mHL => .rotHL .SRA
  | .sra_A => .rotReg .SRA .A
  | .swap_B => .rotReg .SWAP .B
  | .swap_C => .rotReg .SWAP .C
  | .swap_D => .rotReg .SWAP .D
  | .swap_E => .rotReg .SWAP .E
  | .swap_H => .rotReg .SWAP .H
  | .swap_L => .rotReg .SWAP .L
  | .swap_mHL => .rotHL .SWAP
  | .swap_A => .rotReg .SWAP .A
  | .srl_B => .rotReg .SRL .B
  | .srl_C => .rotReg .SRL .C
  | .srl_D => .rotReg .SRL .D
  | .srl_E => .rotReg .SRL .E
  | .srl_H => .rotReg .SRL .H
  | .srl_L => .rotReg .SRL .L
  | .srl_mHL => .rotHL .SRL
  | .srl_A => .rotReg .SRL .A
  | .bit_0_B => .bitReg .i0 .B
  | .bit_0_C => .bitReg .i0 .C
  | .bit_0_D => .bitReg .i0 .D
  | .bit_0_E => .bitReg .i0 .E
  | .bit_0_H => .bitReg .i0 .H
  | .bit_0_L => .bitReg .i0 .L
  | .bit_0_mHL => .bitHL .i0
  | .bit_0_A => .bitReg .i0 .A
  | .bit_1_B => .bitReg .i1 .B
  | .bit_1_C => .bitReg .i1 .C
  | .bit_1_D => .bitReg .i1 .D
  | .bit_1_E => .bitReg .i1 .E
  | .bit_1_H => .bitReg .i1 .H
  | .bit_1_L => .bitReg .i1 .L
  | .bit_1_mHL => .bitHL .i1
  | .bit_1_A => .bitReg .i1 .A
  | .bit_2_B => .bitReg .i2 .B
  | .bit_2_C => .bitReg .i2 .C
  | .bit_2_D => .bitReg .i2 .D
  | .bit_2_E => .bitReg .i2 .E
  | .bit_2_H => .bitReg .i2 .H
  | .bit_2_L => .bitReg .i2 .L
  | .bit_2_mHL => .bitHL .i2
  | .bit_2_A => .bitReg .i2 .A
  | .bit_3_B => .bitReg .i3 .B
  | .bit_3_C => .bitReg .i3 .C
  | .bit_3_D => .bitReg .i3 .D
  | .bit_3_E => .bitReg .i3 .E
  | .bit_3_H => .bitReg .i3 .H
  | .bit_3_L => .bitReg .i3 .L
  | .bit_3_mHL => .bitHL .i3
  | .bit_3_A => .bitReg .i3 .A
  | .bit_4_B => .bitReg .i4 .B
  | .bit_4_C => .bitReg .i4 .C
  | .bit_4_D => .bitReg .i4 .D
  | .bit_4_E => .bitReg .i4 .E
  | .bit_4_H => .bitReg .i4 .H
  | .bit_4_L => .bitReg .i4 .L
  | .bit_4_mHL => .bitHL .i4
  | .bit_4_A => .bitReg .i4 .A
  | .bit_5_B => .bitReg .i5 .B
  | .bit_5_C => .bitReg .i5 .C
  | .bit_5_D => .bitReg .i5 .D
  | .bit_5_E => .bitReg .i5 .E
  | .bit_5_H => .bitReg .i5 .H
  | .bit_5_L => .bitReg .i5 .L
  | .bit_5_mHL => .bitHL .i5
  | .bit_5_A => .bitReg .i5 .A
  | .bit_6_B => .bitReg .i6 .B
  | .bit_6_C => .bitReg .i6 .C
  | .bit_6_D => .bitReg .i6 .D
  | .bit_6_E => .bitReg .i6 .E
  | .bit_6_H => .bitReg .i6 .H
  | .bit_6_L => .bitReg .i6 .L
  | .bit_6_mHL => .bitHL .i6
  | .bit_6_A => .bitReg .i6 .A
  | .bit_7_B => .bitReg .i7 .B
  | .bit_7_C => .bitReg .i7 .C
  | .bit_7_D => .bitReg .i7 .D
  | .bit_7_E => .bitReg .i7 .E
  | .bit_7_H => .bitReg .i7 .H
  | .bit_7_L => .bitReg .i7 .L
  | .bit_7_mHL => .bitHL .i7
  | .bit_7_A => .bitReg .i7 .A
  | .res_0_B => .resReg .i0 .B
  | .res_0_C => .resReg .i0 .C
  | .res_0_D => .resReg .i0 .D
  | .res_0_E => .resReg .i0 .E
  | .res_0_H => .resReg .i0 .H
  | .res_0_L => .resReg .i0 .L
  | .res_0_mHL => .resHL .i0
  | .res_0_A => .resReg .i0 .A
  | .res_1_B => .resReg .i1 .B
  | .res_1_C => .resReg .i1 .C
  | .res_1_D => .resReg .i1 .D
  | .res_1_E => .resReg .i1 .E
  | .res_1_H => .resReg .i1 .H
  | .res_1_L => .resReg .i1 .L
  | .res_1_mHL => .resHL .i1
  | .res_1_A => .resReg .i1 .A
  | .res_2_B => .resReg .i2 .B
  | .res_2_C => .resReg .i2 .C
  | .res_2_D => .resReg .i2 .D
  | .res_2_E => .resReg .i2 .E
  | .res_2_H => .resReg .i2 .H
  | .res_2_L => .resReg .i2 .L
  | .res_2_mHL => .resHL .i2
  | .res_2_A => .resReg .i2 .A
  | .res_3_B => .resReg .i3 .B
  | .res_3_C => .resReg .i3 .C
  | .res_3_D => .resReg .i3 .D
  | .res_3_E => .resReg .i3 .E
  | .res_3_H => .resReg .i3 .H
  | .res_3_L => .resReg .i3 .L
  | .res_3_mHL => .resHL .i3
  | .res_3_A => .resReg .i3 .A
  | .res_4_B => .resReg .i4 .B
  | .res_4_C => .resReg .i4 .C
  | .res_4_D => .resReg .i4 .D
  | .res_4_E => .resReg .i4 .E
  | .res_4_H => .resReg .i4 .H
  | .res_4_L => .resReg .i4 .L
  | .res_4_mHL => .resHL .i4
  | .res_4_A => .resReg .i4 .A
  | .res_5_B => .resReg .i5 .B
  | .res_5_C => .resReg .i5 .C
  | .res_5_D => .resReg .i5 .D
  | .res_5_E => .resReg .i5 .E
  | .res_5_H => .resReg .i5 .H
  | .res_5_L => .resReg .i5 .L
  | .res_5_mHL => .resHL .i5
  | .res_5_A => .resReg .i5 .A
  | .res_6_B => .resReg .i6 .B
  | .res_6_C => .resReg .i6 .C
  | .res_6_D => .resReg .i6 .D
  | .res_6_E => .resReg .i6 .E
  | .res_6_H => .resReg .i6 .H
  | .res_6_L => .resReg .i6 .L
  | .res_6_mHL => .resHL .i6
  | .res_6_A => .resReg .i6 .A
  | .res_7_B => .resReg .i7 .B
  | .res_7_C => .resReg .i7 .C
  | .res_7_D => .resReg .i7 .D
  | .res_7_E => .resReg .i7 .E
  | .res_7_H => .resReg .i7 .H
  | .res_7_L => .resReg .i7 .L
  | .res_7_mHL => .resHL .i7
  | .res_7_A => .resReg .i7 .A
  | .set_0_B => .setReg .i0 .B
  | .set_0_C => .setReg .i0 .C
  | .set_0_D => .setReg .i0 .D
  | .set_0_E => .setReg .i0 .E
  | .set_0_H => .setReg .i0 .H
  | .set_0_L => .setReg .i0 .L
  | .set_0_mHL => .setHL .i0
  | .set_0_A => .setReg .i0 .A
  | .set_1_B => .setReg .i1 .B
  | .set_1_C => .setReg .i1 .C
  | .set_1_D => .setReg .i1 .D
  | .set_1_E => .setReg .i1 .E
  | .set_1_H => .setReg .i1 .H
  | .set_1_L => .setReg .i1 .L
  | .set_1_mHL => .setHL .i1
  | .set_1_A => .setReg .i1 .A
  | .set_2_B => .setReg .i2 .B
  | .set_2_C => .setReg .i2 .C
  | .set_2_D => .setReg .i2 .D
  | .set_2_E => .setReg .i2 .E
  | .set_2_H => .setReg .i2 .H
  | .set_2_L => .setReg .i2 .L
  | .set_2_mHL => .setHL .i2
  | .set_2_A => .setReg .i2 .A
  | .set_3_B => .setReg .i3 .B
  | .set_3_C => .setReg .i3 .C
  | .set_3_D => .setReg .i3 .D
  | .set_3_E => .setReg .i3 .E
  | .set_3_H => .setReg .i3 .H
  | .set_3_L => .setReg .i3 .L
  | .set_3_mHL => .setHL .i3
  | .set_3_A => .setReg .i3 .A
  | .set_4_B => .setReg .i4 .B
  | .set_4_C => .setReg .i4 .C
  | .set_4_D => .setReg .i4 .D
  | .set_4_E => .setReg .i4 .E
  | .set_4_H => .setReg .i4 .H
  | .set_4_L => .setReg .i4 .L
  | .set_4_mHL => .setHL .i4
  | .set_4_A => .setReg .i4 .A
  | .set_5_B => .setReg .i5 .B
  | .set_5_C => .setReg .i5 .C
  | .set_5_D => .setReg .i5 .D
  | .set_5_E => .setReg .i5 .E
  | .set_5_H => .setReg .i5 .H
  | .set_5_L => .setReg .i5 .L
  | .set_5_mHL => .setHL .i5
  | .set_5_A => .setReg .i5 .A
  | .set_6_B => .setReg .i6 .B
  | .set_6_C => .setReg .i6 .C
  | .set_6_D => .setReg .i6 .D
  | .set_6_E => .setReg .i6 .E
  | .set_6_H => .setReg .i6 .H
  | .set_6_L => .setReg .i6 .L
  | .set_6_mHL => .setHL .i6
  | .set_6_A => .setReg .i6 .A
  | .set_7_B => .setReg .i7 .B
  | .set_7_C => .setReg .i7 .C
  | .set_7_D => .setReg .i7 .D
  | .set_7_E => .setReg .i7 .E
  | .set_7_H => .setReg .i7 .H
  | .set_7_L => .setReg .i7 .L
  | .set_7_mHL => .setHL .i7
  | .set_7_A => .setReg .i7 .A

/-- The rows of the form `ldRegReg`. -/
def Instr.ofLdRegReg : Reg8 → Reg8 → Instr
  | .B, .B => .ld_B_B | .B, .C => .ld_B_C | .B, .D => .ld_B_D | .B, .E => .ld_B_E
  | .B, .H => .ld_B_H | .B, .L => .ld_B_L | .B, .A => .ld_B_A | .C, .B => .ld_C_B
  | .C, .C => .ld_C_C | .C, .D => .ld_C_D | .C, .E => .ld_C_E | .C, .H => .ld_C_H
  | .C, .L => .ld_C_L | .C, .A => .ld_C_A | .D, .B => .ld_D_B | .D, .C => .ld_D_C
  | .D, .D => .ld_D_D | .D, .E => .ld_D_E | .D, .H => .ld_D_H | .D, .L => .ld_D_L
  | .D, .A => .ld_D_A | .E, .B => .ld_E_B | .E, .C => .ld_E_C | .E, .D => .ld_E_D
  | .E, .E => .ld_E_E | .E, .H => .ld_E_H | .E, .L => .ld_E_L | .E, .A => .ld_E_A
  | .H, .B => .ld_H_B | .H, .C => .ld_H_C | .H, .D => .ld_H_D | .H, .E => .ld_H_E
  | .H, .H => .ld_H_H | .H, .L => .ld_H_L | .H, .A => .ld_H_A | .L, .B => .ld_L_B
  | .L, .C => .ld_L_C | .L, .D => .ld_L_D | .L, .E => .ld_L_E | .L, .H => .ld_L_H
  | .L, .L => .ld_L_L | .L, .A => .ld_L_A | .A, .B => .ld_A_B | .A, .C => .ld_A_C
  | .A, .D => .ld_A_D | .A, .E => .ld_A_E | .A, .H => .ld_A_H | .A, .L => .ld_A_L
  | .A, .A => .ld_A_A

/-- The rows of the form `ldRegHL`. -/
def Instr.ofLdRegHL : Reg8 → Instr
  | .B => .ld_B_mHL | .C => .ld_C_mHL | .D => .ld_D_mHL | .E => .ld_E_mHL
  | .H => .ld_H_mHL | .L => .ld_L_mHL | .A => .ld_A_mHL

/-- The rows of the form `ldHLReg`. -/
def Instr.ofLdHLReg : Reg8 → Instr
  | .B => .ld_mHL_B | .C => .ld_mHL_C | .D => .ld_mHL_D | .E => .ld_mHL_E
  | .H => .ld_mHL_H | .L => .ld_mHL_L | .A => .ld_mHL_A

/-- The rows of the form `ldRegImm`. -/
def Instr.ofLdRegImm : Reg8 → Byte → Instr
  | .B, d8 => .ld_B_d8 d8 | .C, d8 => .ld_C_d8 d8 | .D, d8 => .ld_D_d8 d8 | .E, d8 => .ld_E_d8 d8
  | .H, d8 => .ld_H_d8 d8 | .L, d8 => .ld_L_d8 d8 | .A, d8 => .ld_A_d8 d8

/-- The rows of the form `ldPairImm`. -/
def Instr.ofLdPairImm : Reg16 → Word → Instr
  | .BC, d16 => .ld_BC_d16 d16 | .DE, d16 => .ld_DE_d16 d16 | .HL, d16 => .ld_HL_d16 d16 | .SP, d16 => .ld_SP_d16 d16

/-- The rows of the form `push`. -/
def Instr.ofPush : StackPair → Instr
  | .BC => .push_BC | .DE => .push_DE | .HL => .push_HL | .AF => .push_AF

/-- The rows of the form `pop`. -/
def Instr.ofPop : StackPair → Instr
  | .BC => .pop_BC | .DE => .pop_DE | .HL => .pop_HL | .AF => .pop_AF

/-- The rows of the form `aluReg`. -/
def Instr.ofAluReg : AluOp → Reg8 → Instr
  | .ADD, .B => .add_A_B | .ADD, .C => .add_A_C | .ADD, .D => .add_A_D | .ADD, .E => .add_A_E
  | .ADD, .H => .add_A_H | .ADD, .L => .add_A_L | .ADD, .A => .add_A_A | .ADC, .B => .adc_A_B
  | .ADC, .C => .adc_A_C | .ADC, .D => .adc_A_D | .ADC, .E => .adc_A_E | .ADC, .H => .adc_A_H
  | .ADC, .L => .adc_A_L | .ADC, .A => .adc_A_A | .SUB, .B => .sub_B | .SUB, .C => .sub_C
  | .SUB, .D => .sub_D | .SUB, .E => .sub_E | .SUB, .H => .sub_H | .SUB, .L => .sub_L
  | .SUB, .A => .sub_A | .SBC, .B => .sbc_A_B | .SBC, .C => .sbc_A_C | .SBC, .D => .sbc_A_D
  | .SBC, .E => .sbc_A_E | .SBC, .H => .sbc_A_H | .SBC, .L => .sbc_A_L | .SBC, .A => .sbc_A_A
  | .AND, .B => .and_B | .AND, .C => .and_C | .AND, .D => .and_D | .AND, .E => .and_E
  | .AND, .H => .and_H | .AND, .L => .and_L | .AND, .A => .and_A | .XOR, .B => .xor_B
  | .XOR, .C => .xor_C | .XOR, .D => .xor_D | .XOR, .E => .xor_E | .XOR, .H => .xor_H
  | .XOR, .L => .xor_L | .XOR, .A => .xor_A | .OR, .B => .or_B | .OR, .C => .or_C
  | .OR, .D => .or_D | .OR, .E => .or_E | .OR, .H => .or_H | .OR, .L => .or_L
  | .OR, .A => .or_A | .CP, .B => .cp_B | .CP, .C => .cp_C | .CP, .D => .cp_D
  | .CP, .E => .cp_E | .CP, .H => .cp_H | .CP, .L => .cp_L | .CP, .A => .cp_A

/-- The rows of the form `aluHL`. -/
def Instr.ofAluHL : AluOp → Instr
  | .ADD => .add_A_mHL | .ADC => .adc_A_mHL | .SUB => .sub_mHL | .SBC => .sbc_A_mHL
  | .AND => .and_mHL | .XOR => .xor_mHL | .OR => .or_mHL | .CP => .cp_mHL

/-- The rows of the form `aluImm`. -/
def Instr.ofAluImm : AluOp → Byte → Instr
  | .ADD, d8 => .add_A_d8 d8 | .ADC, d8 => .adc_A_d8 d8 | .SUB, d8 => .sub_d8 d8 | .SBC, d8 => .sbc_A_d8 d8
  | .AND, d8 => .and_d8 d8 | .XOR, d8 => .xor_d8 d8 | .OR, d8 => .or_d8 d8 | .CP, d8 => .cp_d8 d8

/-- The rows of the form `incReg`. -/
def Instr.ofIncReg : Reg8 → Instr
  | .B => .inc_B | .C => .inc_C | .D => .inc_D | .E => .inc_E
  | .H => .inc_H | .L => .inc_L | .A => .inc_A

/-- The rows of the form `decReg`. -/
def Instr.ofDecReg : Reg8 → Instr
  | .B => .dec_B | .C => .dec_C | .D => .dec_D | .E => .dec_E
  | .H => .dec_H | .L => .dec_L | .A => .dec_A

/-- The rows of the form `addHL`. -/
def Instr.ofAddHL : Reg16 → Instr
  | .BC => .add_HL_BC | .DE => .add_HL_DE | .HL => .add_HL_HL | .SP => .add_HL_SP

/-- The rows of the form `incPair`. -/
def Instr.ofIncPair : Reg16 → Instr
  | .BC => .inc_BC | .DE => .inc_DE | .HL => .inc_HL | .SP => .inc_SP

/-- The rows of the form `decPair`. -/
def Instr.ofDecPair : Reg16 → Instr
  | .BC => .dec_BC | .DE => .dec_DE | .HL => .dec_HL | .SP => .dec_SP

/-- The rows of the form `rotReg`. -/
def Instr.ofRotReg : RotOp → Reg8 → Instr
  | .RLC, .B => .rlc_B | .RLC, .C => .rlc_C | .RLC, .D => .rlc_D | .RLC, .E => .rlc_E
  | .RLC, .H => .rlc_H | .RLC, .L => .rlc_L | .RLC, .A => .rlc_A | .RRC, .B => .rrc_B
  | .RRC, .C => .rrc_C | .RRC, .D => .rrc_D | .RRC, .E => .rrc_E | .RRC, .H => .rrc_H
  | .RRC, .L => .rrc_L | .RRC, .A => .rrc_A | .RL, .B => .rl_B | .RL, .C => .rl_C
  | .RL, .D => .rl_D | .RL, .E => .rl_E | .RL, .H => .rl_H | .RL, .L => .rl_L
  | .RL, .A => .rl_A | .RR, .B => .rr_B | .RR, .C => .rr_C | .RR, .D => .rr_D
  | .RR, .E => .rr_E | .RR, .H => .rr_H | .RR, .L => .rr_L | .RR, .A => .rr_A
  | .SLA, .B => .sla_B | .SLA, .C => .sla_C | .SLA, .D => .sla_D | .SLA, .E => .sla_E
  | .SLA, .H => .sla_H | .SLA, .L => .sla_L | .SLA, .A => .sla_A | .SRA, .B => .sra_B
  | .SRA, .C => .sra_C | .SRA, .D => .sra_D | .SRA, .E => .sra_E | .SRA, .H => .sra_H
  | .SRA, .L => .sra_L | .SRA, .A => .sra_A | .SWAP, .B => .swap_B | .SWAP, .C => .swap_C
  | .SWAP, .D => .swap_D | .SWAP, .E => .swap_E | .SWAP, .H => .swap_H | .SWAP, .L => .swap_L
  | .SWAP, .A => .swap_A | .SRL, .B => .srl_B | .SRL, .C => .srl_C | .SRL, .D => .srl_D
  | .SRL, .E => .srl_E | .SRL, .H => .srl_H | .SRL, .L => .srl_L | .SRL, .A => .srl_A

/-- The rows of the form `rotHL`. -/
def Instr.ofRotHL : RotOp → Instr
  | .RLC => .rlc_mHL | .RRC => .rrc_mHL | .RL => .rl_mHL | .RR => .rr_mHL
  | .SLA => .sla_mHL | .SRA => .sra_mHL | .SWAP => .swap_mHL | .SRL => .srl_mHL

/-- The rows of the form `bitReg`. -/
def Instr.ofBitReg : Idx3 → Reg8 → Instr
  | .i0, .B => .bit_0_B | .i0, .C => .bit_0_C | .i0, .D => .bit_0_D | .i0, .E => .bit_0_E
  | .i0, .H => .bit_0_H | .i0, .L => .bit_0_L | .i0, .A => .bit_0_A | .i1, .B => .bit_1_B
  | .i1, .C => .bit_1_C | .i1, .D => .bit_1_D | .i1, .E => .bit_1_E | .i1, .H => .bit_1_H
  | .i1, .L => .bit_1_L | .i1, .A => .bit_1_A | .i2, .B => .bit_2_B | .i2, .C => .bit_2_C
  | .i2, .D => .bit_2_D | .i2, .E => .bit_2_E | .i2, .H => .bit_2_H | .i2, .L => .bit_2_L
  | .i2, .A => .bit_2_A | .i3, .B => .bit_3_B | .i3, .C => .bit_3_C | .i3, .D => .bit_3_D
  | .i3, .E => .bit_3_E | .i3, .H => .bit_3_H | .i3, .L => .bit_3_L | .i3, .A => .bit_3_A
  | .i4, .B => .bit_4_B | .i4, .C => .bit_4_C | .i4, .D => .bit_4_D | .i4, .E => .bit_4_E
  | .i4, .H => .bit_4_H | .i4, .L => .bit_4_L | .i4, .A => .bit_4_A | .i5, .B => .bit_5_B
  | .i5, .C => .bit_5_C | .i5, .D => .bit_5_D | .i5, .E => .bit_5_E | .i5, .H => .bit_5_H
  | .i5, .L => .bit_5_L | .i5, .A => .bit_5_A | .i6, .B => .bit_6_B | .i6, .C => .bit_6_C
  | .i6, .D => .bit_6_D | .i6, .E => .bit_6_E | .i6, .H => .bit_6_H | .i6, .L => .bit_6_L
  | .i6, .A => .bit_6_A | .i7, .B => .bit_7_B | .i7, .C => .bit_7_C | .i7, .D => .bit_7_D
  | .i7, .E => .bit_7_E | .i7, .H => .bit_7_H | .i7, .L => .bit_7_L | .i7, .A => .bit_7_A

/-- The rows of the form `bitHL`. -/
def Instr.ofBitHL : Idx3 → Instr
  | .i0 => .bit_0_mHL | .i1 => .bit_1_mHL | .i2 => .bit_2_mHL | .i3 => .bit_3_mHL
  | .i4 => .bit_4_mHL | .i5 => .bit_5_mHL | .i6 => .bit_6_mHL | .i7 => .bit_7_mHL

/-- The rows of the form `resReg`. -/
def Instr.ofResReg : Idx3 → Reg8 → Instr
  | .i0, .B => .res_0_B | .i0, .C => .res_0_C | .i0, .D => .res_0_D | .i0, .E => .res_0_E
  | .i0, .H => .res_0_H | .i0, .L => .res_0_L | .i0, .A => .res_0_A | .i1, .B => .res_1_B
  | .i1, .C => .res_1_C | .i1, .D => .res_1_D | .i1, .E => .res_1_E | .i1, .H => .res_1_H
  | .i1, .L => .res_1_L | .i1, .A => .res_1_A | .i2, .B => .res_2_B | .i2, .C => .res_2_C
  | .i2, .D => .res_2_D | .i2, .E => .res_2_E | .i2, .H => .res_2_H | .i2, .L => .res_2_L
  | .i2, .A => .res_2_A | .i3, .B => .res_3_B | .i3, .C => .res_3_C | .i3, .D => .res_3_D
  | .i3, .E => .res_3_E | .i3, .H => .res_3_H | .i3, .L => .res_3_L | .i3, .A => .res_3_A
  | .i4, .B => .res_4_B | .i4, .C => .res_4_C | .i4, .D => .res_4_D | .i4, .E => .res_4_E
  | .i4, .H => .res_4_H | .i4, .L => .res_4_L | .i4, .A => .res_4_A | .i5, .B => .res_5_B
  | .i5, .C => .res_5_C | .i5, .D => .res_5_D | .i5, .E => .res_5_E | .i5, .H => .res_5_H
  | .i5, .L => .res_5_L | .i5, .A => .res_5_A | .i6, .B => .res_6_B | .i6, .C => .res_6_C
  | .i6, .D => .res_6_D | .i6, .E => .res_6_E | .i6, .H => .res_6_H | .i6, .L => .res_6_L
  | .i6, .A => .res_6_A | .i7, .B => .res_7_B | .i7, .C => .res_7_C | .i7, .D => .res_7_D
  | .i7, .E => .res_7_E | .i7, .H => .res_7_H | .i7, .L => .res_7_L | .i7, .A => .res_7_A

/-- The rows of the form `resHL`. -/
def Instr.ofResHL : Idx3 → Instr
  | .i0 => .res_0_mHL | .i1 => .res_1_mHL | .i2 => .res_2_mHL | .i3 => .res_3_mHL
  | .i4 => .res_4_mHL | .i5 => .res_5_mHL | .i6 => .res_6_mHL | .i7 => .res_7_mHL

/-- The rows of the form `setReg`. -/
def Instr.ofSetReg : Idx3 → Reg8 → Instr
  | .i0, .B => .set_0_B | .i0, .C => .set_0_C | .i0, .D => .set_0_D | .i0, .E => .set_0_E
  | .i0, .H => .set_0_H | .i0, .L => .set_0_L | .i0, .A => .set_0_A | .i1, .B => .set_1_B
  | .i1, .C => .set_1_C | .i1, .D => .set_1_D | .i1, .E => .set_1_E | .i1, .H => .set_1_H
  | .i1, .L => .set_1_L | .i1, .A => .set_1_A | .i2, .B => .set_2_B | .i2, .C => .set_2_C
  | .i2, .D => .set_2_D | .i2, .E => .set_2_E | .i2, .H => .set_2_H | .i2, .L => .set_2_L
  | .i2, .A => .set_2_A | .i3, .B => .set_3_B | .i3, .C => .set_3_C | .i3, .D => .set_3_D
  | .i3, .E => .set_3_E | .i3, .H => .set_3_H | .i3, .L => .set_3_L | .i3, .A => .set_3_A
  | .i4, .B => .set_4_B | .i4, .C => .set_4_C | .i4, .D => .set_4_D | .i4, .E => .set_4_E
  | .i4, .H => .set_4_H | .i4, .L => .set_4_L | .i4, .A => .set_4_A | .i5, .B => .set_5_B
  | .i5, .C => .set_5_C | .i5, .D => .set_5_D | .i5, .E => .set_5_E | .i5, .H => .set_5_H
  | .i5, .L => .set_5_L | .i5, .A => .set_5_A | .i6, .B => .set_6_B | .i6, .C => .set_6_C
  | .i6, .D => .set_6_D | .i6, .E => .set_6_E | .i6, .H => .set_6_H | .i6, .L => .set_6_L
  | .i6, .A => .set_6_A | .i7, .B => .set_7_B | .i7, .C => .set_7_C | .i7, .D => .set_7_D
  | .i7, .E => .set_7_E | .i7, .H => .set_7_H | .i7, .L => .set_7_L | .i7, .A => .set_7_A

/-- The rows of the form `setHL`. -/
def Instr.ofSetHL : Idx3 → Instr
  | .i0 => .set_0_mHL | .i1 => .set_1_mHL | .i2 => .set_2_mHL | .i3 => .set_3_mHL
  | .i4 => .set_4_mHL | .i5 => .set_5_mHL | .i6 => .set_6_mHL | .i7 => .set_7_mHL

/-- The rows of the form `jpCond`. -/
def Instr.ofJpCond : Cond → Word → Instr
  | .NZ, a16 => .jp_NZ_a16 a16 | .Z, a16 => .jp_Z_a16 a16 | .NC, a16 => .jp_NC_a16 a16 | .C, a16 => .jp_C_a16 a16

/-- The rows of the form `jrCond`. -/
def Instr.ofJrCond : Cond → Byte → Instr
  | .NZ, e8 => .jr_NZ_e8 e8 | .Z, e8 => .jr_Z_e8 e8 | .NC, e8 => .jr_NC_e8 e8 | .C, e8 => .jr_C_e8 e8

/-- The rows of the form `callCond`. -/
def Instr.ofCallCond : Cond → Word → Instr
  | .NZ, a16 => .call_NZ_a16 a16 | .Z, a16 => .call_Z_a16 a16 | .NC, a16 => .call_NC_a16 a16 | .C, a16 => .call_C_a16 a16

/-- The rows of the form `retCond`. -/
def Instr.ofRetCond : Cond → Instr
  | .NZ => .ret_NZ | .Z => .ret_Z | .NC => .ret_NC | .C => .ret_C

/-- The rows of the form `rst`. -/
def Instr.ofRst : Idx3 → Instr
  | .i0 => .rst_00 | .i1 => .rst_08 | .i2 => .rst_10 | .i3 => .rst_18
  | .i4 => .rst_20 | .i5 => .rst_28 | .i6 => .rst_30 | .i7 => .rst_38

/-- The rows of the form `illegal`. -/
def Instr.ofIllegal : IllegalByte → Instr
  | .xD3 => .illegal_D3 | .xDB => .illegal_DB | .xDD => .illegal_DD | .xE3 => .illegal_E3
  | .xE4 => .illegal_E4 | .xEB => .illegal_EB | .xEC => .illegal_EC | .xED => .illegal_ED
  | .xF4 => .illegal_F4 | .xFC => .illegal_FC | .xFD => .illegal_FD

/-- The instruction of a form: the inverse of `Instr.form`. -/
def Instr.ofForm (f : Form) : Instr :=
  match f with
  | .ldRegReg d r => Instr.ofLdRegReg d r
  | .ldRegHL d => Instr.ofLdRegHL d
  | .ldHLReg r => Instr.ofLdHLReg r
  | .ldRegImm d d8 => Instr.ofLdRegImm d d8
  | .ldHLImm d8 => .ld_mHL_d8 d8
  | .ldABC => .ld_A_mBC
  | .ldADE => .ld_A_mDE
  | .ldBCA => .ld_mBC_A
  | .ldDEA => .ld_mDE_A
  | .ldHLIncA => .ld_mHLi_A
  | .ldHLDecA => .ld_mHLd_A
  | .ldAHLInc => .ld_A_mHLi
  | .ldAHLDec => .ld_A_mHLd
  | .ldAddrA a16 => .ld_ma16_A a16
  | .ldAAddr a16 => .ld_A_ma16 a16
  | .ldhAddrA a8 => .ldh_ma8_A a8
  | .ldhAAddr a8 => .ldh_A_ma8 a8
  | .ldCA => .ld_mC_A
  | .ldAC => .ld_A_mC
  | .ldPairImm p d16 => Instr.ofLdPairImm p d16
  | .ldAddrSP a16 => .ld_ma16_SP a16
  | .ldSPHL => .ld_SP_HL
  | .push p => Instr.ofPush p
  | .pop p => Instr.ofPop p
  | .aluReg op r => Instr.ofAluReg op r
  | .aluHL op => Instr.ofAluHL op
  | .aluImm op d8 => Instr.ofAluImm op d8
  | .incReg r => Instr.ofIncReg r
  | .incHL => .inc_mHL
  | .decReg r => Instr.ofDecReg r
  | .decHL => .dec_mHL
  | .addHL p => Instr.ofAddHL p
  | .incPair p => Instr.ofIncPair p
  | .decPair p => Instr.ofDecPair p
  | .addSP e8 => .add_SP_e8 e8
  | .ldHLSP e8 => .ld_HL_SPe8 e8
  | .rlca => .rlca
  | .rrca => .rrca
  | .rla => .rla
  | .rra => .rra
  | .rotReg op r => Instr.ofRotReg op r
  | .rotHL op => Instr.ofRotHL op
  | .bitReg b r => Instr.ofBitReg b r
  | .bitHL b => Instr.ofBitHL b
  | .resReg b r => Instr.ofResReg b r
  | .resHL b => Instr.ofResHL b
  | .setReg b r => Instr.ofSetReg b r
  | .setHL b => Instr.ofSetHL b
  | .jp a16 => .jp_a16 a16
  | .jpCond cc a16 => Instr.ofJpCond cc a16
  | .jpHL => .jp_HL
  | .jr e8 => .jr_e8 e8
  | .jrCond cc e8 => Instr.ofJrCond cc e8
  | .call a16 => .call_a16 a16
  | .callCond cc a16 => Instr.ofCallCond cc a16
  | .ret => .ret
  | .retCond cc => Instr.ofRetCond cc
  | .reti => .reti
  | .rst y => Instr.ofRst y
  | .nop => .nop
  | .daa => .daa
  | .cpl => .cpl
  | .scf => .scf
  | .ccf => .ccf
  | .di => .di
  | .ei => .ei
  | .halt => .halt
  | .stop ignored => .stop ignored
  | .illegal k => Instr.ofIllegal k

/-! ## The words of spec/opcode_table.json -/

/-- The first three bytes of an instruction whose opcode bits are `w`. A primary row's word is its first byte, and the
later bytes are `w`'s next ones, low byte first. A 16-bit row of the table is an extended row, whose `match` is written
as the number 0xCBnn: its high byte is the prefix, at the lower address (R80; log entry 12). A 16-bit word whose LOW
byte is the prefix is read with its high byte second. -/
def tableBytes (nbits w : Nat) : Byte × Byte × Byte :=
  let b0 := BitVec.ofNat 8 w
  let b1 := BitVec.ofNat 8 (w / 256)
  let b2 := BitVec.ofNat 8 (w / 65536)
  if nbits = 16 ∧ b1 = 0xCB#8 then (b1, b0, b2) else (b0, b1, b2)

/-- The instruction the decoder reads from an opcode-table word. -/
def decodeTableWord (nbits w : Nat) : Option Instr :=
  let b := tableBytes nbits w
  match decode [b.1, b.2.1, b.2.2] with
  | .ok (i, _) => some i
  | .error _ => none

end Sys2Proof
end

