-- ==== Sys2Proof/Config.lean ====
section
/-! DEFINITION. What one implementation fixes and what the spec leaves open (R8): the ROM image size, the value an
unlisted memory cell reads as, and the host's joypad draw. -/

namespace Sys2Proof.Config

/-- `ROM_IMAGE_SIZE` of R8 and R355: exactly 16384 bytes. -/
def romImageSize : Nat := 16384

/-- What a storage byte that the memory list does not name reads as. DESIGN CHOICE, unsafe: R353 makes the contents of
RAM at construction a draw (`initial_ram`) and says a model that fixes them chooses all zeros (log entry 1). -/
def unlisted : Byte := 0x00#8

/-- `joypad_input()` of R63: a fresh u8 that the host supplies at each read of 0xFF00, constrained by nothing. A FREE
VALUE: it has no body, and the n-th read of a run takes `joypadInput n` (log entry 3). -/
opaque joypadInput : Nat → Byte

end Sys2Proof.Config
end

