-- ==== Sys2Proof/Machine/State.lean ====
section
/-! DEFINITION. The whole state of the block as plain data (10_state.md R39, with the parameters and the inputs and
outputs of R6 and R8), the reasons a step can stop, and the state after reset. -/

namespace Sys2Proof.Machine

/-- The seven 8-bit registers (R20). BC, DE and HL are views of them (R21; Operands.lean). -/
structure Regs where
  a : Byte
  b : Byte
  c : Byte
  d : Byte
  e : Byte
  h : Byte
  l : Byte
  deriving DecidableEq, Repr

/-- The four independent 1-bit flags ZF, NF, HF, CF (R23). There is no stored F byte (R22, R38). -/
structure Flags where
  z : Bool
  n : Bool
  h : Bool
  c : Bool
  deriving DecidableEq, Repr

/-- The four modes of the pixel-timing controller (R32, R317). -/
inductive TimingMode where
  | oamScan
  | vramRead
  | hBlank
  | vBlank
  deriving DecidableEq, Repr

/-- The pixel-timing controller's registers (R32, R317), and the model's own count of the FrameReady events it has
emitted (R320; log entry 6). -/
structure Timing where
  mode : TimingMode
  /-- `mode_cycles`: cycles since the last mode transition. -/
  modeCycles : Nat
  /-- `scanline`, 0 to 153. -/
  scanline : Nat
  /-- How many FrameReady events were emitted so far. -/
  framesReady : Nat
  deriving DecidableEq, Repr

/-- The report `IllegalOpcode(pc, bytes)` of R31 and R301. -/
structure FaultReport where
  pc : Word
  bytes : List Byte
  deriving DecidableEq, Repr

/-- What the environment does between two machine steps: the IF bits 4:0 that the external requester sets (R308), and
whether the host wakes a stopped core (R316). -/
structure EnvInput where
  requests : BitVec 5
  wake : Bool
  deriving DecidableEq, Repr

/-- Memory: the storage cells that hold something else than `Config.unlisted`, by rising address (Ops.lean gives the
form and the operations). One list holds every region with storage: ROM bank 0, VRAM, external RAM, working RAM (and so
echo RAM), OAM, the I/O bytes (IF among them, at 0xFF0F), zero-page RAM and IE at 0xFFFF (R39, R51). -/
abbrev Memory := List Host.Cell

/-- The machine's state (R39), with the parameter `vblank_requests_if` (R8) and the model's own fields for what goes in
and out of the block: `inputs`, `joypadReads` and `lastCycles` (log entries 3, 4, 7). -/
structure State where
  regs : Regs
  flags : Flags
  /-- PC (R25). -/
  pc : Word
  /-- SP (R26). -/
  sp : Word
  /-- IME, the interrupt master enable (R27). -/
  ime : Bool
  /-- `ei_delay`, the EI latch (R28). -/
  eiDelay : Bool
  /-- `halted` (R29). -/
  halted : Bool
  /-- `stopped` (R30). -/
  stopped : Bool
  /-- `fault`, the fault record (R31). -/
  fault : Option FaultReport
  /-- The pixel-timing controller (R32). -/
  timing : Timing
  /-- The backing bytes of every region with storage (R51). -/
  mem : Memory
  /-- The parameter `vblank_requests_if` (R8, R320); nothing writes it. -/
  vblankRequestsIf : Bool
  /-- What the environment does before each of the coming machine steps, the next first; past the list's end it does
  nothing (R308, R316; log entry 4). -/
  inputs : List EnvInput
  /-- How many joypad draws were taken (R63; log entry 3). -/
  joypadReads : Nat
  /-- The value the last decoder step or machine step returned, in clock ticks; none before the first step and after a
  step that returned none (R90, R314; log entry 7). -/
  lastCycles : Option Nat
  deriving DecidableEq, Repr

/-- The reasons a step or a construction stops with a fault. -/
inductive Fault where
  /-- IllegalOpcode, code 1 of R300. Raised by `step` in a state whose fault record is set: the machine takes no further
  step and the report goes to the Driving Loop (R31, R301, R314). Safe: the spec gives no later state. -/
  | illegalOpcode (report : FaultReport)
  /-- ROMLoadError, code 3 of R300. Raised by `construct` for an image of the wrong length: no machine is built (R355).
  Safe: the spec gives no state. -/
  | romLoadError (length : Nat)
  deriving DecidableEq, Repr

/-- The reasons the model has no meaning for an instruction. -/
inductive Refusal where
  /-- An arm of `exec` that has no meaning yet. No arm answers it in this model. Safe: the run ends. -/
  | notModelled (mnemonic : String)
  deriving DecidableEq, Repr

/-- What a meaning or a step answers. -/
abbrev Result := Host.Outcome State Fault Refusal

/-- The parameter `RESET_REGS` (R8, R37): the 8-bit registers and the flags at construction. -/
structure ResetRegs where
  regs : Regs
  flags : Flags
  deriving DecidableEq, Repr

/-- The default of `RESET_REGS` (R37, R350): A = 0x01, F = 0xB0, BC = 0x0013, DE = 0x00D8, HL = 0x014D. -/
def resetRegsDefault : ResetRegs where
  regs := { a := 0x01#8, b := 0x00#8, c := 0x13#8, d := 0x00#8, e := 0xD8#8, h := 0x01#8, l := 0x4D#8 }
  flags := { z := true, n := false, h := true, c := true }

/-- The timing state at reset (R352). -/
def Timing.reset : Timing := { mode := .oamScan, modeCycles := 0, scanline := 0, framesReady := 0 }

/-- The state right after construction, for any `RESET_REGS` and any memory (R350 to R353). -/
def State.resetWith (r : ResetRegs) (mem : Memory) : State where
  regs := r.regs
  flags := r.flags
  pc := 0x0100#16
  sp := 0xFFFE#16
  ime := false
  eiDelay := false
  halted := false
  stopped := false
  fault := none
  timing := Timing.reset
  mem := mem
  vblankRequestsIf := false
  inputs := []
  joypadReads := 0
  lastCycles := none

/-- The state right after reset: the default `RESET_REGS` (log entry 2), memory with nothing listed (log entries 1 and
8), `vblank_requests_if` false (log entry 5) and an environment that never acts (log entry 4). -/
def State.reset : State := State.resetWith resetRegsDefault []

end Sys2Proof.Machine
end

