-- ==== Sys2Proof/Machine/Ops.lean ====
section
/-! DEFINITION. The shared operations: memory cells in their canonical form, the bus (20_memory.md), the stack, the
fetch of a byte, the interrupt state with the dispatch and the return from it, and the IllegalOpcode condition
(60_exceptions.md). -/

namespace Sys2Proof.Machine

/-! ## Memory cells -/

/-- The byte of a storage cell. -/
def Memory.get (m : Memory) (k : Nat) : Byte :=
  match m with
  | [] => Config.unlisted
  | (i, v) :: rest => if i = k then v else Memory.get rest k

/-- Write one storage cell, keeping the canonical form: addresses rising, no cell that holds `Config.unlisted`. -/
def Memory.set (m : Memory) (k : Nat) (v : Byte) : Memory :=
  match m with
  | [] => if v = Config.unlisted then [] else [(k, v)]
  | (i, w) :: rest =>
    if k < i then (if v = Config.unlisted then (i, w) :: rest else (k, v) :: (i, w) :: rest)
    else if k = i then (if v = Config.unlisted then rest else (k, v) :: rest)
    else (i, w) :: Memory.set rest k v

/-- Whether an address names a storage cell of its own: a region of R51 with storage, the echo range and 0xFF44 not
among them. -/
def isCell (k : Nat) : Bool :=
  k < 0x4000 || (0x8000 ≤ k && k < 0xE000) || (0xFE00 ≤ k && k < 0xFEA0) || (0xFF00 ≤ k && k ≤ 0xFFFF && k != 0xFF44)

/-- A cell address is above a bound, if there is one. -/
def aboveBound (lo : Option Nat) (k : Nat) : Bool :=
  match lo with
  | none => true
  | some l => l < k

/-- Every listed address is above `lo`, the addresses rise strictly, every one names a storage cell, and no cell holds
what an unlisted one reads as. -/
def Memory.wfAbove (lo : Option Nat) (m : Memory) : Bool :=
  match m with
  | [] => true
  | (k, v) :: rest => aboveBound lo k && isCell k && v != Config.unlisted && Memory.wfAbove (some k) rest

/-- The canonical form of memory. -/
def Memory.wf (m : Memory) : Bool := Memory.wfAbove none m

/-! ## The bus -/

/-- The regions of the address map (R51). -/
inductive Region where
  | rom0 | rom1 | vram | eram | wram | echo | oam | unused | io | hram | ie
  deriving DecidableEq, Repr

/-- The region that owns an address: the ordered range checks of R52, highest range first. -/
def region (addr : Word) : Region :=
  let n := addr.toNat
  if n = 0xFFFF then .ie
  else if n ≥ 0xFF80 then .hram
  else if n ≥ 0xFF00 then .io
  else if n ≥ 0xFEA0 then .unused
  else if n ≥ 0xFE00 then .oam
  else if n ≥ 0xE000 then .echo
  else if n ≥ 0xC000 then .wram
  else if n ≥ 0xA000 then .eram
  else if n ≥ 0x8000 then .vram
  else if n ≥ 0x4000 then .rom1
  else .rom0

/-- LY, the scanline register at 0xFF44 (R62). -/
def lyAddr : Word := 0xFF44#16

/-- JOYP, the joypad register at 0xFF00 (R63). -/
def joypAddr : Word := 0xFF00#16

/-- IF, the interrupt-request register at 0xFF0F (R35). -/
def ifAddr : Word := 0xFF0F#16

/-- IE, the interrupt-enable register at 0xFFFF (R34). -/
def ieAddr : Word := 0xFFFF#16

/-- `read_byte` (R52): the byte a read of the address returns. At 0xFF44 it is the scanline (R62), at 0xFF00 the host's
next draw (R63), in ROM bank 1 and the unused range 0x00 (R54, R60), in the echo range the working-RAM byte (R58). -/
def State.readByte (s : State) (addr : Word) : Byte :=
  match region addr with
  | .ie | .hram | .oam | .wram | .eram | .vram | .rom0 => s.mem.get addr.toNat
  | .io =>
    if addr = lyAddr then BitVec.ofNat 8 s.timing.scanline
    else if addr = joypAddr then Config.joypadInput s.joypadReads
    else s.mem.get addr.toNat
  | .echo => s.mem.get (addr.toNat - 0x2000)
  | .unused | .rom1 => 0x00#8

/-- What a read leaves behind. A read has no side effect on the block's state (R73). The model's count of joypad draws
advances, so that the next read of 0xFF00 is a fresh draw (R63; log entry 3). -/
def State.afterRead (s : State) (addr : Word) : State :=
  if addr = joypAddr then { s with joypadReads := s.joypadReads + 1 } else s

/-- `write_byte` (R52). Writes to ROM, the unused range and 0xFF44 are ignored (R53, R54, R60, R62). -/
def State.writeByte (s : State) (addr : Word) (v : Byte) : State :=
  match region addr with
  | .ie | .hram | .oam | .wram | .eram | .vram => { s with mem := s.mem.set addr.toNat v }
  | .io => if addr = lyAddr then s else { s with mem := s.mem.set addr.toNat v }
  | .echo => { s with mem := s.mem.set (addr.toNat - 0x2000) v }
  | .unused | .rom1 | .rom0 => s

/-- `MemRead(addr, 2)` (R66): the low byte first, the high byte from the next address modulo 2^16. -/
def State.readWord (s : State) (addr : Word) : Word :=
  wordOf ((s.afterRead addr).readByte (addr + 1)) (s.readByte addr)

/-- What a 16-bit read leaves behind. -/
def State.afterReadWord (s : State) (addr : Word) : State := (s.afterRead addr).afterRead (addr + 1)

/-- `MemWrite(addr, 2, v)` (R67): the low byte first, the high byte to the next address modulo 2^16. -/
def State.writeWord (s : State) (addr : Word) (v : Word) : State :=
  (s.writeByte addr (lowByte v)).writeByte (addr + 1) (highByte v)

/-- `Push16(v)` (R68): SP is decremented by 2, then `v` is written at SP. -/
def State.push16 (s : State) (v : Word) : State := { s with sp := s.sp - 2 }.writeWord (s.sp - 2) v

/-- The value `Pop16()` returns (R69). -/
def State.popValue (s : State) : Word := s.readWord s.sp

/-- What `Pop16()` leaves behind (R69): SP incremented by 2 after the read. -/
def State.afterPop (s : State) : State := { s.afterReadWord s.sp with sp := s.sp + 2 }

/-! ## Fetch and completion -/

/-- What `FetchByte()` leaves behind (R89): PC advanced by one modulo 2^16. The byte it returns is `s.readByte s.pc`. -/
def State.afterFetch (s : State) : State := { s.afterRead s.pc with pc := s.pc + 1 }

/-- `return n` (R10): the step completes, reporting n cycles. -/
def State.finish (n : Nat) (s : State) : Result := .next { s with lastCycles := some n }

/-- The `e8` row of R88 and R9's `sext_16`. -/
def sext16 (v : Byte) : Word := v.signExtend 16

/-- The `a8` row of R88: an address of the page 0xFF00. -/
def highPage (a8 : Byte) : Word := wordOf 0xFF#8 a8

/-! ## Interrupts -/

/-- The IE byte (R34). -/
def State.ie (s : State) : Byte := s.mem.get ieAddr.toNat

/-- The IF byte (R35). -/
def State.ifl (s : State) : Byte := s.mem.get ifAddr.toNat

/-- Replace the IF byte. -/
def State.setIf (s : State) (v : Byte) : State := { s with mem := s.mem.set ifAddr.toNat v }

/-- `pending = IE & IF & 0x1F` (R36, R307). -/
def State.pending (s : State) : Byte := s.ie &&& s.ifl &&& 0x1F#8

/-- The lowest-numbered set bit of a pending value, which is served first (R309). -/
def lowestBit (p : Byte) : Nat :=
  if p.getLsbD 0 then 0
  else if p.getLsbD 1 then 1
  else if p.getLsbD 2 then 2
  else if p.getLsbD 3 then 3
  else 4

/-- The vector of source k (R304, R310). -/
def vector (k : Nat) : Word := 0x0040#16 + BitVec.ofNat 16 (8 * k)

/-- The cost of an interrupt dispatch (R310, R360). -/
def dispatchCost : Nat := 20

/-- The cost of a halted idle step (R315, R360). -/
def idleCost : Nat := 4

/-- `Dispatch(k)`, the interrupt entry (R310): the request is acknowledged, IME and the EI latch are cleared, PC is
pushed and set to the vector. -/
def State.dispatch (s : State) (k : Nat) : State :=
  let s1 := s.setIf (s.ifl &&& ~~~(1#8 <<< k))
  let s2 := { s1 with ime := false, eiDelay := false }
  { s2.push16 s2.pc with pc := vector k, lastCycles := some dispatchCost }

/-- The return from an interrupt (R230, R312): PC is popped and IME becomes 1 at once. -/
def State.returnFromInterrupt (s : State) : State := { s.afterPop with pc := s.popValue, ime := true }

/-- `IF[k] <- 1` for every bit the external requester sets (R308). -/
def State.requestInterrupts (s : State) (bits : BitVec 5) : State := s.setIf (s.ifl ||| bits.setWidth 8)

/-! ## IllegalOpcode -/

/-- An illegal opcode byte (R259, R301), fetched at pc0, so that PC is pc0 + 1: PC goes back to pc0 and the fault record
names pc0 and the byte. The decoder step gives back the rest of the state before the step. It is no dispatch: nothing is
pushed and no cycle count is returned. -/
def State.raiseIllegal (s : State) (op : Byte) : State :=
  { s with pc := s.pc - 1, fault := some { pc := s.pc - 1, bytes := [op] }, lastCycles := none }

end Sys2Proof.Machine
end

