-- ==== Sys2Proof/Machine/Load.lean ====
section
/-! DEFINITION. Construction (70_reset_and_hazards.md R350 to R355): the loading of a ROM image, the contents of RAM,
and the loader's write that `withFetchWord` uses. -/

namespace Sys2Proof.Machine

/-- The cells of a byte stream laid from address `k` up (R354). -/
def romCells (k : Nat) (image : List Byte) : Memory :=
  match image with
  | [] => []
  | b :: rest => if b = Config.unlisted then romCells (k + 1) rest else (k, b) :: romCells (k + 1) rest

/-- `initial_ram` (R353): each given cell that lies outside the ROM bank and has storage takes its byte. -/
def loadRam (ram : List Host.Cell) (m : Memory) : Memory :=
  ram.foldl (fun m c => if isCell c.1 && 0x8000 ≤ c.1 then m.set c.1 c.2 else m) m

/-- Construction from `RESET_REGS`, `initial_ram` and a ROM image: ROMLoadError unless the image has exactly
`ROM_IMAGE_SIZE` bytes (R355), else the reset state with the image in ROM bank 0, verbatim (R350 to R354). -/
def construct (r : ResetRegs) (ram : List Host.Cell) (image : List Byte) : Result :=
  if image.length = Config.romImageSize then .next (State.resetWith r (loadRam ram (romCells 0 image)))
  else .fault (.romLoadError image.length)

/-- A write by the loader, which reaches ROM bank 0 too (log entry 8). -/
def State.poke (s : State) (addr : Word) (v : Byte) : State :=
  match region addr with
  | .rom0 => { s with mem := s.mem.set addr.toNat v }
  | .rom1 | .vram | .eram | .wram | .echo | .oam | .unused | .io | .hram | .ie => s.writeByte addr v

end Sys2Proof.Machine
end

