-- ==== Sys2Proof/Machine/Operands.lean ====
section
/-! DEFINITION. The operands of the instructions: the 8-bit registers (R82), the pairs (R21, R83), the stack pairs
(R84), and the conditions (R85, R220). -/

namespace Sys2Proof.Machine

/-- The register named by `r`. -/
def Regs.get (g : Regs) (r : Reg8) : Byte :=
  match r with
  | .A => g.a
  | .B => g.b
  | .C => g.c
  | .D => g.d
  | .E => g.e
  | .H => g.h
  | .L => g.l

/-- The registers with the one named by `r` written. -/
def Regs.set (g : Regs) (r : Reg8) (v : Byte) : Regs :=
  match r with
  | .A => { g with a := v }
  | .B => { g with b := v }
  | .C => { g with c := v }
  | .D => { g with d := v }
  | .E => { g with e := v }
  | .H => { g with h := v }
  | .L => { g with l := v }

/-- `get_r(r)` for a register operand (R82). -/
def State.reg (s : State) (r : Reg8) : Byte := s.regs.get r

/-- `set_r(r, v)` for a register operand (R82). -/
def State.setReg (s : State) (r : Reg8) (v : Byte) : State := { s with regs := s.regs.set r v }

/-- The pair view BC: B is the high half (R21). -/
def State.bc (s : State) : Word := wordOf s.regs.b s.regs.c

/-- The pair view DE. -/
def State.de (s : State) : Word := wordOf s.regs.d s.regs.e

/-- The pair view HL, the address of the operand (HL). -/
def State.hl (s : State) : Word := wordOf s.regs.h s.regs.l

/-- Write BC: both halves in one step (R21). -/
def State.setBC (s : State) (v : Word) : State := { s with regs := { s.regs with b := highByte v, c := lowByte v } }

/-- Write DE. -/
def State.setDE (s : State) (v : Word) : State := { s with regs := { s.regs with d := highByte v, e := lowByte v } }

/-- Write HL. -/
def State.setHL (s : State) (v : Word) : State := { s with regs := { s.regs with h := highByte v, l := lowByte v } }

/-- `get_rp(p)` (R83). -/
def State.pair (s : State) (p : Reg16) : Word :=
  match p with
  | .BC => s.bc
  | .DE => s.de
  | .HL => s.hl
  | .SP => s.sp

/-- `set_rp(p, v)` (R83). -/
def State.setPair (s : State) (p : Reg16) (v : Word) : State :=
  match p with
  | .BC => s.setBC v
  | .DE => s.setDE v
  | .HL => s.setHL v
  | .SP => { s with sp := v }

/-- `PackF()` (R24): bits 7 to 4 are ZF, NF, HF, CF and the low nibble is zero. -/
def Flags.pack (f : Flags) : Byte :=
  (BitVec.ofBool f.z ++ BitVec.ofBool f.n ++ BitVec.ofBool f.h ++ BitVec.ofBool f.c ++ 0#4 : BitVec 8)

/-- `UnpackF(b)` (R24): the low nibble is discarded. -/
def unpackFlags (b : Byte) : Flags :=
  { z := b.getLsbD 7, n := b.getLsbD 6, h := b.getLsbD 5, c := b.getLsbD 4 }

/-- `get_rp2(p)` (R84): AF is A with the packed flag byte. -/
def State.stackPair (s : State) (p : StackPair) : Word :=
  match p with
  | .BC => s.bc
  | .DE => s.de
  | .HL => s.hl
  | .AF => wordOf s.regs.a s.flags.pack

/-- `set_rp2(p, v)` (R84). -/
def State.setStackPair (s : State) (p : StackPair) (v : Word) : State :=
  match p with
  | .BC => s.setBC v
  | .DE => s.setDE v
  | .HL => s.setHL v
  | .AF => { s with regs := { s.regs with a := highByte v }, flags := unpackFlags (lowByte v) }

/-- `Cond(cc)` (R85, R220). -/
def Flags.holds (f : Flags) (cc : Cond) : Bool :=
  match cc with
  | .NZ => !f.z
  | .Z => f.z
  | .NC => !f.c
  | .C => f.c

end Sys2Proof.Machine
end

