-- ==== Sys2Proof/Machine/Flags.lean ====
section
/-! DEFINITION. The ALU helpers: each returns its result and the flags it leaves (41_alu8.md section 1, 42_alu16.md
section 1, 43_rotate_shift_bit.md, 45_misc.md R251 to R254). Sums are exact naturals, narrowed at the end. -/

namespace Sys2Proof.Machine

/-- A carry as a number. -/
def carryNat (c : Bool) : Nat := if c then 1 else 0

/-- `Add8(a, v, cin)` (R140): one three-operand sum; H is the carry out of bit 3, C the carry out of bit 7. -/
def add8 (a v : Byte) (cin : Bool) : Byte × Flags :=
  let sum := a.toNat + v.toNat + carryNat cin
  let result := BitVec.ofNat 8 sum
  (result,
    { z := result == 0x00#8
      n := false
      h := decide ((a &&& 0x0F#8).toNat + (v &&& 0x0F#8).toNat + carryNat cin > 0x0F)
      c := decide (sum > 0xFF) })

/-- `Sub8(a, v, cin)` (R141): one three-operand difference; H is the borrow into bit 3, C the borrow out of bit 7. -/
def sub8 (a v : Byte) (cin : Bool) : Byte × Flags :=
  let diff : Int := (a.toNat : Int) - v.toNat - carryNat cin
  let result := BitVec.ofInt 8 diff
  (result,
    { z := result == 0x00#8
      n := true
      h := decide ((a &&& 0x0F#8).toNat < (v &&& 0x0F#8).toNat + carryNat cin)
      c := decide (a.toNat < v.toNat + carryNat cin) })

/-- `And8(a, v)` (R142). -/
def and8 (a v : Byte) : Byte × Flags :=
  (a &&& v, { z := (a &&& v) == 0x00#8, n := false, h := true, c := false })

/-- `Xor8(a, v)` (R143). -/
def xor8 (a v : Byte) : Byte × Flags :=
  (a ^^^ v, { z := (a ^^^ v) == 0x00#8, n := false, h := false, c := false })

/-- `Or8(a, v)` (R144). -/
def or8 (a v : Byte) : Byte × Flags :=
  (a ||| v, { z := (a ||| v) == 0x00#8, n := false, h := false, c := false })

/-- `Inc8(v)` (R145): C is not written. -/
def inc8 (v : Byte) (f : Flags) : Byte × Flags :=
  (v + 1, { z := (v + 1) == 0x00#8, n := false, h := (v &&& 0x0F#8) == 0x0F#8, c := f.c })

/-- `Dec8(v)` (R146): C is not written. -/
def dec8 (v : Byte) (f : Flags) : Byte × Flags :=
  (v - 1, { z := (v - 1) == 0x00#8, n := true, h := (v &&& 0x0F#8) == 0x00#8, c := f.c })

/-- `Add16(a, b)` (R180): Z is not written; H is the carry out of bit 11, C the carry out of bit 15. -/
def add16 (a b : Word) (f : Flags) : Word × Flags :=
  let sum := a.toNat + b.toNat
  (BitVec.ofNat 16 sum,
    { z := f.z
      n := false
      h := decide ((a &&& 0x0FFF#16).toNat + (b &&& 0x0FFF#16).toNat > 0x0FFF)
      c := decide (sum > 0xFFFF) })

/-- `AddSPe8(e)` (R184): the flags come from the unsigned add of `e` to SP's low byte. -/
def addSPe8 (sp : Word) (e : Byte) : Word × Flags :=
  (sp + sext16 e,
    { z := false
      n := false
      h := decide ((sp &&& 0x0F#16).toNat + (e &&& 0x0F#8).toNat > 0x0F)
      c := decide ((sp &&& 0xFF#16).toNat + e.toNat > 0xFF) })

/-- A bit as a byte. -/
def bitByte (b : Bool) : Byte := if b then 1#8 else 0#8

/-- The result and the evicted bit of a rotate or shift of the extended set (R194 to R209); SWAP evicts nothing and
clears C (R206). `c` is CF before. -/
def rotate (op : RotOp) (v : Byte) (c : Bool) : Byte × Bool :=
  match op with
  | .RLC => (v <<< 1 ||| bitByte (v.getLsbD 7), v.getLsbD 7)
  | .RRC => (v >>> 1 ||| bitByte (v.getLsbD 0) <<< 7, v.getLsbD 0)
  | .RL => (v <<< 1 ||| bitByte c, v.getLsbD 7)
  | .RR => (v >>> 1 ||| bitByte c <<< 7, v.getLsbD 0)
  | .SLA => (v <<< 1, v.getLsbD 7)
  | .SRA => (v >>> 1 ||| (v &&& 0x80#8), v.getLsbD 0)
  | .SWAP => ((v &&& 0x0F#8) <<< 4 ||| v >>> 4, false)
  | .SRL => (v >>> 1, v.getLsbD 0)

/-- An extended rotate or shift with its flags: Z from the result, N = H = 0, C the evicted bit (R194 to R209). -/
def rotateFlags (op : RotOp) (v : Byte) (f : Flags) : Byte × Flags :=
  let r := rotate op v f.c
  (r.1, { z := r.1 == 0x00#8, n := false, h := false, c := r.2 })

/-- An accumulator rotate with its flags: Z is always 0 (R190 to R193). -/
def rotateAccFlags (op : RotOp) (v : Byte) (f : Flags) : Byte × Flags :=
  let r := rotate op v f.c
  (r.1, { z := false, n := false, h := false, c := r.2 })

/-- BIT's flags (R210): Z is the tested bit inverted, N = 0, H = 1, C kept. -/
def bitFlags (b : Idx3) (v : Byte) (f : Flags) : Flags :=
  { z := !v.getLsbD b.toNat, n := false, h := true, c := f.c }

/-- RES's result (R212). -/
def resetBit (b : Idx3) (v : Byte) : Byte := v &&& ~~~(1#8 <<< b.toNat)

/-- SET's result (R214). -/
def setBit (b : Idx3) (v : Byte) : Byte := v ||| 1#8 <<< b.toNat

/-- DAA (R251): the test `a > 0x99` looks at A before any correction, the low-nibble test at the value after the 0x60
correction; N is kept, H is cleared, C is never cleared. -/
def daa8 (a : Byte) (f : Flags) : Byte × Flags :=
  let hi : Bool := f.c || (!f.n && decide (a.toNat > 0x99))
  let r : Byte :=
    if f.n then
      let a1 := if f.c then a - 0x60#8 else a
      if f.h then a1 - 0x06#8 else a1
    else
      let a1 := if hi then a + 0x60#8 else a
      if f.h || decide ((a1 &&& 0x0F#8).toNat > 0x09) then a1 + 0x06#8 else a1
  (r, { z := r == 0x00#8, n := f.n, h := false, c := hi })

/-- CPL's flags (R252). -/
def cplFlags (f : Flags) : Flags := { f with n := true, h := true }

/-- SCF's flags (R253). -/
def scfFlags (f : Flags) : Flags := { f with n := false, h := false, c := true }

/-- CCF's flags (R254). -/
def ccfFlags (f : Flags) : Flags := { f with n := false, h := false, c := !f.c }

/-- The ALU operations of R86: the result written to A and the flags. CP's result is discarded, so A is kept (R168). -/
def alu (op : AluOp) (a v : Byte) (cin : Bool) : Byte × Flags :=
  match op with
  | .ADD => add8 a v false
  | .ADC => add8 a v cin
  | .SUB => sub8 a v false
  | .SBC => sub8 a v cin
  | .AND => and8 a v
  | .XOR => xor8 a v
  | .OR => or8 a v
  | .CP => (a, (sub8 a v false).2)

end Sys2Proof.Machine
end

