-- ==== Sys2Proof/Machine/Alu16.lean ====
section
/-! DEFINITION. The meanings of the 16-bit arithmetic instructions (42_alu16.md R181 to R186). None raises an exception. -/

namespace Sys2Proof.Machine

/-- R181. -/
def addToHL (p : Reg16) (s : State) : Result :=
  let x := add16 s.hl (s.pair p) s.flags
  State.finish 8 { s.setHL x.1 with flags := x.2 }

/-- R182. -/
def incrementPair (p : Reg16) (s : State) : Result := (s.setPair p (s.pair p + 1)).finish 8

/-- R183. -/
def decrementPair (p : Reg16) (s : State) : Result := (s.setPair p (s.pair p - 1)).finish 8

/-- R182: INC BC, 0x03. -/
def execInc_BC (s : State) : Result := incrementPair .BC s

/-- R181: ADD HL,BC, 0x09. -/
def execAdd_HL_BC (s : State) : Result := addToHL .BC s

/-- R183: DEC BC, 0x0B. -/
def execDec_BC (s : State) : Result := decrementPair .BC s

/-- R182: INC DE, 0x13. -/
def execInc_DE (s : State) : Result := incrementPair .DE s

/-- R181: ADD HL,DE, 0x19. -/
def execAdd_HL_DE (s : State) : Result := addToHL .DE s

/-- R183: DEC DE, 0x1B. -/
def execDec_DE (s : State) : Result := decrementPair .DE s

/-- R182: INC HL, 0x23. -/
def execInc_HL (s : State) : Result := incrementPair .HL s

/-- R181: ADD HL,HL, 0x29. -/
def execAdd_HL_HL (s : State) : Result := addToHL .HL s

/-- R183: DEC HL, 0x2B. -/
def execDec_HL (s : State) : Result := decrementPair .HL s

/-- R182: INC SP, 0x33. -/
def execInc_SP (s : State) : Result := incrementPair .SP s

/-- R181: ADD HL,SP, 0x39. -/
def execAdd_HL_SP (s : State) : Result := addToHL .SP s

/-- R183: DEC SP, 0x3B. -/
def execDec_SP (s : State) : Result := decrementPair .SP s

/-- R185: ADD SP,e8, 0xE8. -/
def execAdd_SP_e8 (e8 : Byte) (s : State) : Result :=
  State.finish 16 { s with sp := (addSPe8 s.sp e8).1, flags := (addSPe8 s.sp e8).2 }

/-- R186: LD HL,SP+e8, 0xF8. -/
def execLd_HL_SPe8 (e8 : Byte) (s : State) : Result :=
  State.finish 12 { s.setHL (addSPe8 s.sp e8).1 with flags := (addSPe8 s.sp e8).2 }

end Sys2Proof.Machine
end

