-- ==== Sys2Proof/Machine/Alu8.lean ====
section
/-! DEFINITION. The meanings of the 8-bit arithmetic and logic instructions (41_alu8.md R147 to R174). None raises an
exception. -/

namespace Sys2Proof.Machine

/-- An ALU operation on A and an operand value: A and the flags are written (R147 to R170). -/
def aluValue (op : AluOp) (v : Byte) (n : Nat) (s : State) : Result :=
  let x := alu op s.regs.a v s.flags.c
  State.finish n { s with regs := { s.regs with a := x.1 }, flags := x.2 }

/-- An ALU operation on A and a register. -/
def aluRegister (op : AluOp) (r : Reg8) (s : State) : Result := aluValue op (s.reg r) 4 s

/-- An ALU operation on A and the byte at HL. -/
def aluMemory (op : AluOp) (s : State) : Result := aluValue op (s.readByte s.hl) 8 (s.afterRead s.hl)

/-- An ALU operation on A and an immediate. -/
def aluImmediate (op : AluOp) (d8 : Byte) (s : State) : Result := aluValue op d8 8 s

/-- A register is replaced by a function of it and the flags, which also gives the new flags (R171, R173). -/
def updateReg (f : Byte → Flags → Byte × Flags) (r : Reg8) (n : Nat) (s : State) : Result :=
  let x := f (s.reg r) s.flags
  State.finish n { s.setReg r x.1 with flags := x.2 }

/-- The byte at HL is read once and replaced once, at the same address (R172, R174). -/
def updateMem (f : Byte → Flags → Byte × Flags) (n : Nat) (s : State) : Result :=
  let x := f (s.readByte s.hl) s.flags
  State.finish n { (s.afterRead s.hl).writeByte s.hl x.1 with flags := x.2 }

/-- R171: INC B, 0x04. -/
def execInc_B (s : State) : Result := updateReg inc8 .B 4 s

/-- R173: DEC B, 0x05. -/
def execDec_B (s : State) : Result := updateReg dec8 .B 4 s

/-- R171: INC C, 0x0C. -/
def execInc_C (s : State) : Result := updateReg inc8 .C 4 s

/-- R173: DEC C, 0x0D. -/
def execDec_C (s : State) : Result := updateReg dec8 .C 4 s

/-- R171: INC D, 0x14. -/
def execInc_D (s : State) : Result := updateReg inc8 .D 4 s

/-- R173: DEC D, 0x15. -/
def execDec_D (s : State) : Result := updateReg dec8 .D 4 s

/-- R171: INC E, 0x1C. -/
def execInc_E (s : State) : Result := updateReg inc8 .E 4 s

/-- R173: DEC E, 0x1D. -/
def execDec_E (s : State) : Result := updateReg dec8 .E 4 s

/-- R171: INC H, 0x24. -/
def execInc_H (s : State) : Result := updateReg inc8 .H 4 s

/-- R173: DEC H, 0x25. -/
def execDec_H (s : State) : Result := updateReg dec8 .H 4 s

/-- R171: INC L, 0x2C. -/
def execInc_L (s : State) : Result := updateReg inc8 .L 4 s

/-- R173: DEC L, 0x2D. -/
def execDec_L (s : State) : Result := updateReg dec8 .L 4 s

/-- R172: INC (HL), 0x34. -/
def execInc_mHL (s : State) : Result := updateMem inc8 12 s

/-- R174: DEC (HL), 0x35. -/
def execDec_mHL (s : State) : Result := updateMem dec8 12 s

/-- R171: INC A, 0x3C. -/
def execInc_A (s : State) : Result := updateReg inc8 .A 4 s

/-- R173: DEC A, 0x3D. -/
def execDec_A (s : State) : Result := updateReg dec8 .A 4 s

/-- R147: ADD A,B, 0x80. -/
def execAdd_A_B (s : State) : Result := aluRegister .ADD .B s

/-- R147: ADD A,C, 0x81. -/
def execAdd_A_C (s : State) : Result := aluRegister .ADD .C s

/-- R147: ADD A,D, 0x82. -/
def execAdd_A_D (s : State) : Result := aluRegister .ADD .D s

/-- R147: ADD A,E, 0x83. -/
def execAdd_A_E (s : State) : Result := aluRegister .ADD .E s

/-- R147: ADD A,H, 0x84. -/
def execAdd_A_H (s : State) : Result := aluRegister .ADD .H s

/-- R147: ADD A,L, 0x85. -/
def execAdd_A_L (s : State) : Result := aluRegister .ADD .L s

/-- R148: ADD A,(HL), 0x86. -/
def execAdd_A_mHL (s : State) : Result := aluMemory .ADD s

/-- R147: ADD A,A, 0x87. -/
def execAdd_A_A (s : State) : Result := aluRegister .ADD .A s

/-- R150: ADC A,B, 0x88. -/
def execAdc_A_B (s : State) : Result := aluRegister .ADC .B s

/-- R150: ADC A,C, 0x89. -/
def execAdc_A_C (s : State) : Result := aluRegister .ADC .C s

/-- R150: ADC A,D, 0x8A. -/
def execAdc_A_D (s : State) : Result := aluRegister .ADC .D s

/-- R150: ADC A,E, 0x8B. -/
def execAdc_A_E (s : State) : Result := aluRegister .ADC .E s

/-- R150: ADC A,H, 0x8C. -/
def execAdc_A_H (s : State) : Result := aluRegister .ADC .H s

/-- R150: ADC A,L, 0x8D. -/
def execAdc_A_L (s : State) : Result := aluRegister .ADC .L s

/-- R151: ADC A,(HL), 0x8E. -/
def execAdc_A_mHL (s : State) : Result := aluMemory .ADC s

/-- R150: ADC A,A, 0x8F. -/
def execAdc_A_A (s : State) : Result := aluRegister .ADC .A s

/-- R153: SUB B, 0x90. -/
def execSub_B (s : State) : Result := aluRegister .SUB .B s

/-- R153: SUB C, 0x91. -/
def execSub_C (s : State) : Result := aluRegister .SUB .C s

/-- R153: SUB D, 0x92. -/
def execSub_D (s : State) : Result := aluRegister .SUB .D s

/-- R153: SUB E, 0x93. -/
def execSub_E (s : State) : Result := aluRegister .SUB .E s

/-- R153: SUB H, 0x94. -/
def execSub_H (s : State) : Result := aluRegister .SUB .H s

/-- R153: SUB L, 0x95. -/
def execSub_L (s : State) : Result := aluRegister .SUB .L s

/-- R154: SUB (HL), 0x96. -/
def execSub_mHL (s : State) : Result := aluMemory .SUB s

/-- R153: SUB A, 0x97. -/
def execSub_A (s : State) : Result := aluRegister .SUB .A s

/-- R156: SBC A,B, 0x98. -/
def execSbc_A_B (s : State) : Result := aluRegister .SBC .B s

/-- R156: SBC A,C, 0x99. -/
def execSbc_A_C (s : State) : Result := aluRegister .SBC .C s

/-- R156: SBC A,D, 0x9A. -/
def execSbc_A_D (s : State) : Result := aluRegister .SBC .D s

/-- R156: SBC A,E, 0x9B. -/
def execSbc_A_E (s : State) : Result := aluRegister .SBC .E s

/-- R156: SBC A,H, 0x9C. -/
def execSbc_A_H (s : State) : Result := aluRegister .SBC .H s

/-- R156: SBC A,L, 0x9D. -/
def execSbc_A_L (s : State) : Result := aluRegister .SBC .L s

/-- R157: SBC A,(HL), 0x9E. -/
def execSbc_A_mHL (s : State) : Result := aluMemory .SBC s

/-- R156: SBC A,A, 0x9F. -/
def execSbc_A_A (s : State) : Result := aluRegister .SBC .A s

/-- R159: AND B, 0xA0. -/
def execAnd_B (s : State) : Result := aluRegister .AND .B s

/-- R159: AND C, 0xA1. -/
def execAnd_C (s : State) : Result := aluRegister .AND .C s

/-- R159: AND D, 0xA2. -/
def execAnd_D (s : State) : Result := aluRegister .AND .D s

/-- R159: AND E, 0xA3. -/
def execAnd_E (s : State) : Result := aluRegister .AND .E s

/-- R159: AND H, 0xA4. -/
def execAnd_H (s : State) : Result := aluRegister .AND .H s

/-- R159: AND L, 0xA5. -/
def execAnd_L (s : State) : Result := aluRegister .AND .L s

/-- R160: AND (HL), 0xA6. -/
def execAnd_mHL (s : State) : Result := aluMemory .AND s

/-- R159: AND A, 0xA7. -/
def execAnd_A (s : State) : Result := aluRegister .AND .A s

/-- R162: XOR B, 0xA8. -/
def execXor_B (s : State) : Result := aluRegister .XOR .B s

/-- R162: XOR C, 0xA9. -/
def execXor_C (s : State) : Result := aluRegister .XOR .C s

/-- R162: XOR D, 0xAA. -/
def execXor_D (s : State) : Result := aluRegister .XOR .D s

/-- R162: XOR E, 0xAB. -/
def execXor_E (s : State) : Result := aluRegister .XOR .E s

/-- R162: XOR H, 0xAC. -/
def execXor_H (s : State) : Result := aluRegister .XOR .H s

/-- R162: XOR L, 0xAD. -/
def execXor_L (s : State) : Result := aluRegister .XOR .L s

/-- R163: XOR (HL), 0xAE. -/
def execXor_mHL (s : State) : Result := aluMemory .XOR s

/-- R162: XOR A, 0xAF. -/
def execXor_A (s : State) : Result := aluRegister .XOR .A s

/-- R165: OR B, 0xB0. -/
def execOr_B (s : State) : Result := aluRegister .OR .B s

/-- R165: OR C, 0xB1. -/
def execOr_C (s : State) : Result := aluRegister .OR .C s

/-- R165: OR D, 0xB2. -/
def execOr_D (s : State) : Result := aluRegister .OR .D s

/-- R165: OR E, 0xB3. -/
def execOr_E (s : State) : Result := aluRegister .OR .E s

/-- R165: OR H, 0xB4. -/
def execOr_H (s : State) : Result := aluRegister .OR .H s

/-- R165: OR L, 0xB5. -/
def execOr_L (s : State) : Result := aluRegister .OR .L s

/-- R166: OR (HL), 0xB6. -/
def execOr_mHL (s : State) : Result := aluMemory .OR s

/-- R165: OR A, 0xB7. -/
def execOr_A (s : State) : Result := aluRegister .OR .A s

/-- R168: CP B, 0xB8. -/
def execCp_B (s : State) : Result := aluRegister .CP .B s

/-- R168: CP C, 0xB9. -/
def execCp_C (s : State) : Result := aluRegister .CP .C s

/-- R168: CP D, 0xBA. -/
def execCp_D (s : State) : Result := aluRegister .CP .D s

/-- R168: CP E, 0xBB. -/
def execCp_E (s : State) : Result := aluRegister .CP .E s

/-- R168: CP H, 0xBC. -/
def execCp_H (s : State) : Result := aluRegister .CP .H s

/-- R168: CP L, 0xBD. -/
def execCp_L (s : State) : Result := aluRegister .CP .L s

/-- R169: CP (HL), 0xBE. -/
def execCp_mHL (s : State) : Result := aluMemory .CP s

/-- R168: CP A, 0xBF. -/
def execCp_A (s : State) : Result := aluRegister .CP .A s

/-- R149: ADD A,d8, 0xC6. -/
def execAdd_A_d8 (d8 : Byte) (s : State) : Result := aluImmediate .ADD d8 s

/-- R152: ADC A,d8, 0xCE. -/
def execAdc_A_d8 (d8 : Byte) (s : State) : Result := aluImmediate .ADC d8 s

/-- R155: SUB d8, 0xD6. -/
def execSub_d8 (d8 : Byte) (s : State) : Result := aluImmediate .SUB d8 s

/-- R158: SBC A,d8, 0xDE. -/
def execSbc_A_d8 (d8 : Byte) (s : State) : Result := aluImmediate .SBC d8 s

/-- R161: AND d8, 0xE6. -/
def execAnd_d8 (d8 : Byte) (s : State) : Result := aluImmediate .AND d8 s

/-- R164: XOR d8, 0xEE. -/
def execXor_d8 (d8 : Byte) (s : State) : Result := aluImmediate .XOR d8 s

/-- R167: OR d8, 0xF6. -/
def execOr_d8 (d8 : Byte) (s : State) : Result := aluImmediate .OR d8 s

/-- R170: CP d8, 0xFE. -/
def execCp_d8 (d8 : Byte) (s : State) : Result := aluImmediate .CP d8 s

end Sys2Proof.Machine
end

