-- ==== Sys2Proof/Machine/Control.lean ====
section
/-! DEFINITION. The meanings of the control transfers (44_control.md R221 to R231). PC is PC_next when they run. None
changes a flag or raises an exception. -/

namespace Sys2Proof.Machine

/-- PC is written (R221, R223). -/
def jumpTo (target : Word) (n : Nat) (s : State) : Result := State.finish n { s with pc := target }

/-- PC is moved by a signed displacement from PC_next (R224). -/
def jumpBy (e8 : Byte) (n : Nat) (s : State) : Result := jumpTo (s.pc + sext16 e8) n s

/-- PC_next is pushed and PC written (R226, R231). -/
def callTo (target : Word) (n : Nat) (s : State) : Result := State.finish n { s.push16 s.pc with pc := target }

/-- PC is popped (R228). -/
def returnFrom (n : Nat) (s : State) : Result := State.finish n { s.afterPop with pc := s.popValue }

/-- R222. -/
def jumpToIf (cc : Cond) (a16 : Word) (s : State) : Result :=
  if s.flags.holds cc then jumpTo a16 16 s else s.finish 12

/-- R225. -/
def jumpByIf (cc : Cond) (e8 : Byte) (s : State) : Result :=
  if s.flags.holds cc then jumpBy e8 12 s else s.finish 8

/-- R227. -/
def callToIf (cc : Cond) (a16 : Word) (s : State) : Result :=
  if s.flags.holds cc then callTo a16 24 s else s.finish 12

/-- R229. -/
def returnFromIf (cc : Cond) (s : State) : Result :=
  if s.flags.holds cc then returnFrom 20 s else s.finish 8

/-- R231: the target is y * 8. -/
def restart (y : Idx3) (s : State) : Result := callTo (BitVec.ofNat 16 (8 * y.toNat)) 16 s

/-- R224: JR e8, 0x18. -/
def execJr_e8 (e8 : Byte) (s : State) : Result := jumpBy e8 12 s

/-- R225: JR NZ,e8, 0x20. -/
def execJr_NZ_e8 (e8 : Byte) (s : State) : Result := jumpByIf .NZ e8 s

/-- R225: JR Z,e8, 0x28. -/
def execJr_Z_e8 (e8 : Byte) (s : State) : Result := jumpByIf .Z e8 s

/-- R225: JR NC,e8, 0x30. -/
def execJr_NC_e8 (e8 : Byte) (s : State) : Result := jumpByIf .NC e8 s

/-- R225: JR C,e8, 0x38. -/
def execJr_C_e8 (e8 : Byte) (s : State) : Result := jumpByIf .C e8 s

/-- R229: RET NZ, 0xC0. -/
def execRet_NZ (s : State) : Result := returnFromIf .NZ s

/-- R222: JP NZ,a16, 0xC2. -/
def execJp_NZ_a16 (a16 : Word) (s : State) : Result := jumpToIf .NZ a16 s

/-- R221: JP a16, 0xC3. -/
def execJp_a16 (a16 : Word) (s : State) : Result := jumpTo a16 16 s

/-- R227: CALL NZ,a16, 0xC4. -/
def execCall_NZ_a16 (a16 : Word) (s : State) : Result := callToIf .NZ a16 s

/-- R231: RST 0x00, 0xC7. -/
def execRst_00 (s : State) : Result := restart .i0 s

/-- R229: RET Z, 0xC8. -/
def execRet_Z (s : State) : Result := returnFromIf .Z s

/-- R228: RET, 0xC9. -/
def execRet (s : State) : Result := returnFrom 16 s

/-- R222: JP Z,a16, 0xCA. -/
def execJp_Z_a16 (a16 : Word) (s : State) : Result := jumpToIf .Z a16 s

/-- R227: CALL Z,a16, 0xCC. -/
def execCall_Z_a16 (a16 : Word) (s : State) : Result := callToIf .Z a16 s

/-- R226: CALL a16, 0xCD. -/
def execCall_a16 (a16 : Word) (s : State) : Result := callTo a16 24 s

/-- R231: RST 0x08, 0xCF. -/
def execRst_08 (s : State) : Result := restart .i1 s

/-- R229: RET NC, 0xD0. -/
def execRet_NC (s : State) : Result := returnFromIf .NC s

/-- R222: JP NC,a16, 0xD2. -/
def execJp_NC_a16 (a16 : Word) (s : State) : Result := jumpToIf .NC a16 s

/-- R227: CALL NC,a16, 0xD4. -/
def execCall_NC_a16 (a16 : Word) (s : State) : Result := callToIf .NC a16 s

/-- R231: RST 0x10, 0xD7. -/
def execRst_10 (s : State) : Result := restart .i2 s

/-- R229: RET C, 0xD8. -/
def execRet_C (s : State) : Result := returnFromIf .C s

/-- R230: RETI, 0xD9. -/
def execReti (s : State) : Result := State.finish 16 s.returnFromInterrupt

/-- R222: JP C,a16, 0xDA. -/
def execJp_C_a16 (a16 : Word) (s : State) : Result := jumpToIf .C a16 s

/-- R227: CALL C,a16, 0xDC. -/
def execCall_C_a16 (a16 : Word) (s : State) : Result := callToIf .C a16 s

/-- R231: RST 0x18, 0xDF. -/
def execRst_18 (s : State) : Result := restart .i3 s

/-- R231: RST 0x20, 0xE7. -/
def execRst_20 (s : State) : Result := restart .i4 s

/-- R223: JP HL, 0xE9. -/
def execJp_HL (s : State) : Result := jumpTo s.hl 4 s

/-- R231: RST 0x28, 0xEF. -/
def execRst_28 (s : State) : Result := restart .i5 s

/-- R231: RST 0x30, 0xF7. -/
def execRst_30 (s : State) : Result := restart .i6 s

/-- R231: RST 0x38, 0xFF. -/
def execRst_38 (s : State) : Result := restart .i7 s

end Sys2Proof.Machine
end

