-- ==== Sys2Proof/Machine/Loads.lean ====
section
/-! DEFINITION. The meanings of the loads, stores and stack operations (40_loads.md R100 to R125). Each runs after the
fetch, so PC is already PC_next (R90). None writes a flag but POP AF. None raises an exception. -/

namespace Sys2Proof.Machine

/-- R100. -/
def loadRegReg (d r : Reg8) (s : State) : Result := (s.setReg d (s.reg r)).finish 4

/-- A byte read into a register (R101, R105, R106, R114, R116, R118). -/
def loadRegMem (d : Reg8) (addr : Word) (n : Nat) (s : State) : Result :=
  ((s.afterRead addr).setReg d (s.readByte addr)).finish n

/-- A byte stored (R102, R104, R107, R108, R113, R115, R117). -/
def storeMem (addr : Word) (v : Byte) (n : Nat) (s : State) : Result := (s.writeByte addr v).finish n

/-- R103. -/
def loadRegImm (d : Reg8) (d8 : Byte) (s : State) : Result := (s.setReg d d8).finish 8

/-- R109, R110: A is stored at HL, then HL is replaced. -/
def storeAStep (hl' : Word) (s : State) : Result := ((s.writeByte s.hl s.regs.a).setHL hl').finish 8

/-- R111, R112: A is loaded from HL, then HL is replaced. -/
def loadAStep (hl' : Word) (s : State) : Result :=
  (((s.afterRead s.hl).setReg .A (s.readByte s.hl)).setHL hl').finish 8

/-- R119. -/
def loadPairImm (p : Reg16) (d16 : Word) (s : State) : Result := (s.setPair p d16).finish 12

/-- R120. -/
def storeSP (a16 : Word) (s : State) : Result := (s.writeWord a16 s.sp).finish 20

/-- R122, R123. -/
def pushPair (p : StackPair) (s : State) : Result := (s.push16 (s.stackPair p)).finish 16

/-- R124, R125. -/
def popPair (p : StackPair) (s : State) : Result := (s.afterPop.setStackPair p s.popValue).finish 12

/-- R119: LD BC,d16, 0x01. -/
def execLd_BC_d16 (d16 : Word) (s : State) : Result := loadPairImm .BC d16 s

/-- R107: LD (BC),A, 0x02. -/
def execLd_mBC_A (s : State) : Result := storeMem s.bc s.regs.a 8 s

/-- R103: LD B,d8, 0x06. -/
def execLd_B_d8 (d8 : Byte) (s : State) : Result := loadRegImm .B d8 s

/-- R120: LD (a16),SP, 0x08. -/
def execLd_ma16_SP (a16 : Word) (s : State) : Result := storeSP a16 s

/-- R105: LD A,(BC), 0x0A. -/
def execLd_A_mBC (s : State) : Result := loadRegMem .A s.bc 8 s

/-- R103: LD C,d8, 0x0E. -/
def execLd_C_d8 (d8 : Byte) (s : State) : Result := loadRegImm .C d8 s

/-- R119: LD DE,d16, 0x11. -/
def execLd_DE_d16 (d16 : Word) (s : State) : Result := loadPairImm .DE d16 s

/-- R108: LD (DE),A, 0x12. -/
def execLd_mDE_A (s : State) : Result := storeMem s.de s.regs.a 8 s

/-- R103: LD D,d8, 0x16. -/
def execLd_D_d8 (d8 : Byte) (s : State) : Result := loadRegImm .D d8 s

/-- R106: LD A,(DE), 0x1A. -/
def execLd_A_mDE (s : State) : Result := loadRegMem .A s.de 8 s

/-- R103: LD E,d8, 0x1E. -/
def execLd_E_d8 (d8 : Byte) (s : State) : Result := loadRegImm .E d8 s

/-- R119: LD HL,d16, 0x21. -/
def execLd_HL_d16 (d16 : Word) (s : State) : Result := loadPairImm .HL d16 s

/-- R109: LD (HL+),A, 0x22. -/
def execLd_mHLi_A (s : State) : Result := storeAStep (s.hl + 1) s

/-- R103: LD H,d8, 0x26. -/
def execLd_H_d8 (d8 : Byte) (s : State) : Result := loadRegImm .H d8 s

/-- R111: LD A,(HL+), 0x2A. -/
def execLd_A_mHLi (s : State) : Result := loadAStep (s.hl + 1) s

/-- R103: LD L,d8, 0x2E. -/
def execLd_L_d8 (d8 : Byte) (s : State) : Result := loadRegImm .L d8 s

/-- R119: LD SP,d16, 0x31. -/
def execLd_SP_d16 (d16 : Word) (s : State) : Result := loadPairImm .SP d16 s

/-- R110: LD (HL-),A, 0x32. -/
def execLd_mHLd_A (s : State) : Result := storeAStep (s.hl - 1) s

/-- R104: LD (HL),d8, 0x36. -/
def execLd_mHL_d8 (d8 : Byte) (s : State) : Result := storeMem s.hl d8 12 s

/-- R112: LD A,(HL-), 0x3A. -/
def execLd_A_mHLd (s : State) : Result := loadAStep (s.hl - 1) s

/-- R103: LD A,d8, 0x3E. -/
def execLd_A_d8 (d8 : Byte) (s : State) : Result := loadRegImm .A d8 s

/-- R100: LD B,B, 0x40. -/
def execLd_B_B (s : State) : Result := loadRegReg .B .B s

/-- R100: LD B,C, 0x41. -/
def execLd_B_C (s : State) : Result := loadRegReg .B .C s

/-- R100: LD B,D, 0x42. -/
def execLd_B_D (s : State) : Result := loadRegReg .B .D s

/-- R100: LD B,E, 0x43. -/
def execLd_B_E (s : State) : Result := loadRegReg .B .E s

/-- R100: LD B,H, 0x44. -/
def execLd_B_H (s : State) : Result := loadRegReg .B .H s

/-- R100: LD B,L, 0x45. -/
def execLd_B_L (s : State) : Result := loadRegReg .B .L s

/-- R101: LD B,(HL), 0x46. -/
def execLd_B_mHL (s : State) : Result := loadRegMem .B s.hl 8 s

/-- R100: LD B,A, 0x47. -/
def execLd_B_A (s : State) : Result := loadRegReg .B .A s

/-- R100: LD C,B, 0x48. -/
def execLd_C_B (s : State) : Result := loadRegReg .C .B s

/-- R100: LD C,C, 0x49. -/
def execLd_C_C (s : State) : Result := loadRegReg .C .C s

/-- R100: LD C,D, 0x4A. -/
def execLd_C_D (s : State) : Result := loadRegReg .C .D s

/-- R100: LD C,E, 0x4B. -/
def execLd_C_E (s : State) : Result := loadRegReg .C .E s

/-- R100: LD C,H, 0x4C. -/
def execLd_C_H (s : State) : Result := loadRegReg .C .H s

/-- R100: LD C,L, 0x4D. -/
def execLd_C_L (s : State) : Result := loadRegReg .C .L s

/-- R101: LD C,(HL), 0x4E. -/
def execLd_C_mHL (s : State) : Result := loadRegMem .C s.hl 8 s

/-- R100: LD C,A, 0x4F. -/
def execLd_C_A (s : State) : Result := loadRegReg .C .A s

/-- R100: LD D,B, 0x50. -/
def execLd_D_B (s : State) : Result := loadRegReg .D .B s

/-- R100: LD D,C, 0x51. -/
def execLd_D_C (s : State) : Result := loadRegReg .D .C s

/-- R100: LD D,D, 0x52. -/
def execLd_D_D (s : State) : Result := loadRegReg .D .D s

/-- R100: LD D,E, 0x53. -/
def execLd_D_E (s : State) : Result := loadRegReg .D .E s

/-- R100: LD D,H, 0x54. -/
def execLd_D_H (s : State) : Result := loadRegReg .D .H s

/-- R100: LD D,L, 0x55. -/
def execLd_D_L (s : State) : Result := loadRegReg .D .L s

/-- R101: LD D,(HL), 0x56. -/
def execLd_D_mHL (s : State) : Result := loadRegMem .D s.hl 8 s

/-- R100: LD D,A, 0x57. -/
def execLd_D_A (s : State) : Result := loadRegReg .D .A s

/-- R100: LD E,B, 0x58. -/
def execLd_E_B (s : State) : Result := loadRegReg .E .B s

/-- R100: LD E,C, 0x59. -/
def execLd_E_C (s : State) : Result := loadRegReg .E .C s

/-- R100: LD E,D, 0x5A. -/
def execLd_E_D (s : State) : Result := loadRegReg .E .D s

/-- R100: LD E,E, 0x5B. -/
def execLd_E_E (s : State) : Result := loadRegReg .E .E s

/-- R100: LD E,H, 0x5C. -/
def execLd_E_H (s : State) : Result := loadRegReg .E .H s

/-- R100: LD E,L, 0x5D. -/
def execLd_E_L (s : State) : Result := loadRegReg .E .L s

/-- R101: LD E,(HL), 0x5E. -/
def execLd_E_mHL (s : State) : Result := loadRegMem .E s.hl 8 s

/-- R100: LD E,A, 0x5F. -/
def execLd_E_A (s : State) : Result := loadRegReg .E .A s

/-- R100: LD H,B, 0x60. -/
def execLd_H_B (s : State) : Result := loadRegReg .H .B s

/-- R100: LD H,C, 0x61. -/
def execLd_H_C (s : State) : Result := loadRegReg .H .C s

/-- R100: LD H,D, 0x62. -/
def execLd_H_D (s : State) : Result := loadRegReg .H .D s

/-- R100: LD H,E, 0x63. -/
def execLd_H_E (s : State) : Result := loadRegReg .H .E s

/-- R100: LD H,H, 0x64. -/
def execLd_H_H (s : State) : Result := loadRegReg .H .H s

/-- R100: LD H,L, 0x65. -/
def execLd_H_L (s : State) : Result := loadRegReg .H .L s

/-- R101: LD H,(HL), 0x66. -/
def execLd_H_mHL (s : State) : Result := loadRegMem .H s.hl 8 s

/-- R100: LD H,A, 0x67. -/
def execLd_H_A (s : State) : Result := loadRegReg .H .A s

/-- R100: LD L,B, 0x68. -/
def execLd_L_B (s : State) : Result := loadRegReg .L .B s

/-- R100: LD L,C, 0x69. -/
def execLd_L_C (s : State) : Result := loadRegReg .L .C s

/-- R100: LD L,D, 0x6A. -/
def execLd_L_D (s : State) : Result := loadRegReg .L .D s

/-- R100: LD L,E, 0x6B. -/
def execLd_L_E (s : State) : Result := loadRegReg .L .E s

/-- R100: LD L,H, 0x6C. -/
def execLd_L_H (s : State) : Result := loadRegReg .L .H s

/-- R100: LD L,L, 0x6D. -/
def execLd_L_L (s : State) : Result := loadRegReg .L .L s

/-- R101: LD L,(HL), 0x6E. -/
def execLd_L_mHL (s : State) : Result := loadRegMem .L s.hl 8 s

/-- R100: LD L,A, 0x6F. -/
def execLd_L_A (s : State) : Result := loadRegReg .L .A s

/-- R102: LD (HL),B, 0x70. -/
def execLd_mHL_B (s : State) : Result := storeMem s.hl (s.reg .B) 8 s

/-- R102: LD (HL),C, 0x71. -/
def execLd_mHL_C (s : State) : Result := storeMem s.hl (s.reg .C) 8 s

/-- R102: LD (HL),D, 0x72. -/
def execLd_mHL_D (s : State) : Result := storeMem s.hl (s.reg .D) 8 s

/-- R102: LD (HL),E, 0x73. -/
def execLd_mHL_E (s : State) : Result := storeMem s.hl (s.reg .E) 8 s

/-- R102: LD (HL),H, 0x74. -/
def execLd_mHL_H (s : State) : Result := storeMem s.hl (s.reg .H) 8 s

/-- R102: LD (HL),L, 0x75. -/
def execLd_mHL_L (s : State) : Result := storeMem s.hl (s.reg .L) 8 s

/-- R102: LD (HL),A, 0x77. -/
def execLd_mHL_A (s : State) : Result := storeMem s.hl (s.reg .A) 8 s

/-- R100: LD A,B, 0x78. -/
def execLd_A_B (s : State) : Result := loadRegReg .A .B s

/-- R100: LD A,C, 0x79. -/
def execLd_A_C (s : State) : Result := loadRegReg .A .C s

/-- R100: LD A,D, 0x7A. -/
def execLd_A_D (s : State) : Result := loadRegReg .A .D s

/-- R100: LD A,E, 0x7B. -/
def execLd_A_E (s : State) : Result := loadRegReg .A .E s

/-- R100: LD A,H, 0x7C. -/
def execLd_A_H (s : State) : Result := loadRegReg .A .H s

/-- R100: LD A,L, 0x7D. -/
def execLd_A_L (s : State) : Result := loadRegReg .A .L s

/-- R101: LD A,(HL), 0x7E. -/
def execLd_A_mHL (s : State) : Result := loadRegMem .A s.hl 8 s

/-- R100: LD A,A, 0x7F. -/
def execLd_A_A (s : State) : Result := loadRegReg .A .A s

/-- R124: POP BC, 0xC1. -/
def execPop_BC (s : State) : Result := popPair .BC s

/-- R122: PUSH BC, 0xC5. -/
def execPush_BC (s : State) : Result := pushPair .BC s

/-- R124: POP DE, 0xD1. -/
def execPop_DE (s : State) : Result := popPair .DE s

/-- R122: PUSH DE, 0xD5. -/
def execPush_DE (s : State) : Result := pushPair .DE s

/-- R115: LDH (a8),A, 0xE0. -/
def execLdh_ma8_A (a8 : Byte) (s : State) : Result := storeMem (highPage a8) s.regs.a 12 s

/-- R124: POP HL, 0xE1. -/
def execPop_HL (s : State) : Result := popPair .HL s

/-- R117: LD (C),A, 0xE2. -/
def execLd_mC_A (s : State) : Result := storeMem (highPage s.regs.c) s.regs.a 8 s

/-- R122: PUSH HL, 0xE5. -/
def execPush_HL (s : State) : Result := pushPair .HL s

/-- R113: LD (a16),A, 0xEA. -/
def execLd_ma16_A (a16 : Word) (s : State) : Result := storeMem a16 s.regs.a 16 s

/-- R116: LDH A,(a8), 0xF0. -/
def execLdh_A_ma8 (a8 : Byte) (s : State) : Result := loadRegMem .A (highPage a8) 12 s

/-- R125: POP AF, 0xF1. -/
def execPop_AF (s : State) : Result := popPair .AF s

/-- R118: LD A,(C), 0xF2. -/
def execLd_A_mC (s : State) : Result := loadRegMem .A (highPage s.regs.c) 8 s

/-- R123: PUSH AF, 0xF5. -/
def execPush_AF (s : State) : Result := pushPair .AF s

/-- R121: LD SP,HL, 0xF9. -/
def execLd_SP_HL (s : State) : Result := State.finish 8 { s with sp := s.hl }

/-- R114: LD A,(a16), 0xFA. -/
def execLd_A_ma16 (a16 : Word) (s : State) : Result := loadRegMem .A a16 16 s

end Sys2Proof.Machine
end

