-- ==== Sys2Proof/Machine/Misc.lean ====
section
/-! DEFINITION. The meanings of the miscellaneous and system instructions (45_misc.md R250 to R259). An illegal byte
records its fault (R301); the decoder step gives back the rest of the state. -/

namespace Sys2Proof.Machine

/-- R250: NOP, 0x00. -/
def execNop (s : State) : Result := s.finish 4

/-- R258: STOP, 0x10. -/
def execStop (_ignored : Byte) (s : State) : Result := State.finish 4 { s with stopped := true }

/-- R251: DAA, 0x27. -/
def execDaa (s : State) : Result :=
  State.finish 4 { s with regs := { s.regs with a := (daa8 s.regs.a s.flags).1 }, flags := (daa8 s.regs.a s.flags).2 }

/-- R252: CPL, 0x2F. -/
def execCpl (s : State) : Result :=
  State.finish 4 { s with regs := { s.regs with a := ~~~s.regs.a }, flags := cplFlags s.flags }

/-- R253: SCF, 0x37. -/
def execScf (s : State) : Result := State.finish 4 { s with flags := scfFlags s.flags }

/-- R254: CCF, 0x3F. -/
def execCcf (s : State) : Result := State.finish 4 { s with flags := ccfFlags s.flags }

/-- R257: HALT, 0x76. -/
def execHalt (s : State) : Result := State.finish 4 { s with halted := true }

/-- R259: illegal byte, 0xD3. -/
def execIllegal_D3 (s : State) : Result := .next (s.raiseIllegal 0xD3#8)

/-- R259: illegal byte, 0xDB. -/
def execIllegal_DB (s : State) : Result := .next (s.raiseIllegal 0xDB#8)

/-- R259: illegal byte, 0xDD. -/
def execIllegal_DD (s : State) : Result := .next (s.raiseIllegal 0xDD#8)

/-- R259: illegal byte, 0xE3. -/
def execIllegal_E3 (s : State) : Result := .next (s.raiseIllegal 0xE3#8)

/-- R259: illegal byte, 0xE4. -/
def execIllegal_E4 (s : State) : Result := .next (s.raiseIllegal 0xE4#8)

/-- R259: illegal byte, 0xEB. -/
def execIllegal_EB (s : State) : Result := .next (s.raiseIllegal 0xEB#8)

/-- R259: illegal byte, 0xEC. -/
def execIllegal_EC (s : State) : Result := .next (s.raiseIllegal 0xEC#8)

/-- R259: illegal byte, 0xED. -/
def execIllegal_ED (s : State) : Result := .next (s.raiseIllegal 0xED#8)

/-- R255: DI, 0xF3. -/
def execDi (s : State) : Result := State.finish 4 { s with ime := false, eiDelay := false }

/-- R259: illegal byte, 0xF4. -/
def execIllegal_F4 (s : State) : Result := .next (s.raiseIllegal 0xF4#8)

/-- R256: EI, 0xFB. -/
def execEi (s : State) : Result := State.finish 4 { s with eiDelay := true }

/-- R259: illegal byte, 0xFC. -/
def execIllegal_FC (s : State) : Result := .next (s.raiseIllegal 0xFC#8)

/-- R259: illegal byte, 0xFD. -/
def execIllegal_FD (s : State) : Result := .next (s.raiseIllegal 0xFD#8)

end Sys2Proof.Machine
end

