-- ==== Sys2Proof/Machine/Rotate.lean ====
section
/-! DEFINITION. The meanings of the rotates, shifts and bit operations (43_rotate_shift_bit.md R190 to R215). None raises
an exception. -/

namespace Sys2Proof.Machine

/-- R190 to R193: a rotate of A that clears Z. -/
def rotateAcc (op : RotOp) (s : State) : Result :=
  let x := rotateAccFlags op s.regs.a s.flags
  State.finish 4 { s with regs := { s.regs with a := x.1 }, flags := x.2 }

/-- R194, R196, ..., R208. -/
def rotateRegister (op : RotOp) (r : Reg8) (s : State) : Result := updateReg (rotateFlags op) r 8 s

/-- R195, R197, ..., R209. -/
def rotateMemory (op : RotOp) (s : State) : Result := updateMem (rotateFlags op) 16 s

/-- R210. -/
def testBitRegister (b : Idx3) (r : Reg8) (s : State) : Result :=
  State.finish 8 { s with flags := bitFlags b (s.reg r) s.flags }

/-- R211. -/
def testBitMemory (b : Idx3) (s : State) : Result :=
  State.finish 12 { s.afterRead s.hl with flags := bitFlags b (s.readByte s.hl) s.flags }

/-- R212. -/
def resetBitRegister (b : Idx3) (r : Reg8) (s : State) : Result := updateReg (fun v f => (resetBit b v, f)) r 8 s

/-- R213. -/
def resetBitMemory (b : Idx3) (s : State) : Result := updateMem (fun v f => (resetBit b v, f)) 16 s

/-- R214. -/
def setBitRegister (b : Idx3) (r : Reg8) (s : State) : Result := updateReg (fun v f => (setBit b v, f)) r 8 s

/-- R215. -/
def setBitMemory (b : Idx3) (s : State) : Result := updateMem (fun v f => (setBit b v, f)) 16 s

/-- R190: RLCA, 0x07. -/
def execRlca (s : State) : Result := rotateAcc .RLC s

/-- R191: RRCA, 0x0F. -/
def execRrca (s : State) : Result := rotateAcc .RRC s

/-- R192: RLA, 0x17. -/
def execRla (s : State) : Result := rotateAcc .RL s

/-- R193: RRA, 0x1F. -/
def execRra (s : State) : Result := rotateAcc .RR s

/-- R194: RLC B, 0xCB 0x00. -/
def execRlc_B (s : State) : Result := rotateRegister .RLC .B s

/-- R194: RLC C, 0xCB 0x01. -/
def execRlc_C (s : State) : Result := rotateRegister .RLC .C s

/-- R194: RLC D, 0xCB 0x02. -/
def execRlc_D (s : State) : Result := rotateRegister .RLC .D s

/-- R194: RLC E, 0xCB 0x03. -/
def execRlc_E (s : State) : Result := rotateRegister .RLC .E s

/-- R194: RLC H, 0xCB 0x04. -/
def execRlc_H (s : State) : Result := rotateRegister .RLC .H s

/-- R194: RLC L, 0xCB 0x05. -/
def execRlc_L (s : State) : Result := rotateRegister .RLC .L s

/-- R195: RLC (HL), 0xCB 0x06. -/
def execRlc_mHL (s : State) : Result := rotateMemory .RLC s

/-- R194: RLC A, 0xCB 0x07. -/
def execRlc_A (s : State) : Result := rotateRegister .RLC .A s

/-- R196: RRC B, 0xCB 0x08. -/
def execRrc_B (s : State) : Result := rotateRegister .RRC .B s

/-- R196: RRC C, 0xCB 0x09. -/
def execRrc_C (s : State) : Result := rotateRegister .RRC .C s

/-- R196: RRC D, 0xCB 0x0A. -/
def execRrc_D (s : State) : Result := rotateRegister .RRC .D s

/-- R196: RRC E, 0xCB 0x0B. -/
def execRrc_E (s : State) : Result := rotateRegister .RRC .E s

/-- R196: RRC H, 0xCB 0x0C. -/
def execRrc_H (s : State) : Result := rotateRegister .RRC .H s

/-- R196: RRC L, 0xCB 0x0D. -/
def execRrc_L (s : State) : Result := rotateRegister .RRC .L s

/-- R197: RRC (HL), 0xCB 0x0E. -/
def execRrc_mHL (s : State) : Result := rotateMemory .RRC s

/-- R196: RRC A, 0xCB 0x0F. -/
def execRrc_A (s : State) : Result := rotateRegister .RRC .A s

/-- R198: RL B, 0xCB 0x10. -/
def execRl_B (s : State) : Result := rotateRegister .RL .B s

/-- R198: RL C, 0xCB 0x11. -/
def execRl_C (s : State) : Result := rotateRegister .RL .C s

/-- R198: RL D, 0xCB 0x12. -/
def execRl_D (s : State) : Result := rotateRegister .RL .D s

/-- R198: RL E, 0xCB 0x13. -/
def execRl_E (s : State) : Result := rotateRegister .RL .E s

/-- R198: RL H, 0xCB 0x14. -/
def execRl_H (s : State) : Result := rotateRegister .RL .H s

/-- R198: RL L, 0xCB 0x15. -/
def execRl_L (s : State) : Result := rotateRegister .RL .L s

/-- R199: RL (HL), 0xCB 0x16. -/
def execRl_mHL (s : State) : Result := rotateMemory .RL s

/-- R198: RL A, 0xCB 0x17. -/
def execRl_A (s : State) : Result := rotateRegister .RL .A s

/-- R200: RR B, 0xCB 0x18. -/
def execRr_B (s : State) : Result := rotateRegister .RR .B s

/-- R200: RR C, 0xCB 0x19. -/
def execRr_C (s : State) : Result := rotateRegister .RR .C s

/-- R200: RR D, 0xCB 0x1A. -/
def execRr_D (s : State) : Result := rotateRegister .RR .D s

/-- R200: RR E, 0xCB 0x1B. -/
def execRr_E (s : State) : Result := rotateRegister .RR .E s

/-- R200: RR H, 0xCB 0x1C. -/
def execRr_H (s : State) : Result := rotateRegister .RR .H s

/-- R200: RR L, 0xCB 0x1D. -/
def execRr_L (s : State) : Result := rotateRegister .RR .L s

/-- R201: RR (HL), 0xCB 0x1E. -/
def execRr_mHL (s : State) : Result := rotateMemory .RR s

/-- R200: RR A, 0xCB 0x1F. -/
def execRr_A (s : State) : Result := rotateRegister .RR .A s

/-- R202: SLA B, 0xCB 0x20. -/
def execSla_B (s : State) : Result := rotateRegister .SLA .B s

/-- R202: SLA C, 0xCB 0x21. -/
def execSla_C (s : State) : Result := rotateRegister .SLA .C s

/-- R202: SLA D, 0xCB 0x22. -/
def execSla_D (s : State) : Result := rotateRegister .SLA .D s

/-- R202: SLA E, 0xCB 0x23. -/
def execSla_E (s : State) : Result := rotateRegister .SLA .E s

/-- R202: SLA H, 0xCB 0x24. -/
def execSla_H (s : State) : Result := rotateRegister .SLA .H s

/-- R202: SLA L, 0xCB 0x25. -/
def execSla_L (s : State) : Result := rotateRegister .SLA .L s

/-- R203: SLA (HL), 0xCB 0x26. -/
def execSla_mHL (s : State) : Result := rotateMemory .SLA s

/-- R202: SLA A, 0xCB 0x27. -/
def execSla_A (s : State) : Result := rotateRegister .SLA .A s

/-- R204: SRA B, 0xCB 0x28. -/
def execSra_B (s : State) : Result := rotateRegister .SRA .B s

/-- R204: SRA C, 0xCB 0x29. -/
def execSra_C (s : State) : Result := rotateRegister .SRA .C s

/-- R204: SRA D, 0xCB 0x2A. -/
def execSra_D (s : State) : Result := rotateRegister .SRA .D s

/-- R204: SRA E, 0xCB 0x2B. -/
def execSra_E (s : State) : Result := rotateRegister .SRA .E s

/-- R204: SRA H, 0xCB 0x2C. -/
def execSra_H (s : State) : Result := rotateRegister .SRA .H s

/-- R204: SRA L, 0xCB 0x2D. -/
def execSra_L (s : State) : Result := rotateRegister .SRA .L s

/-- R205: SRA (HL), 0xCB 0x2E. -/
def execSra_mHL (s : State) : Result := rotateMemory .SRA s

/-- R204: SRA A, 0xCB 0x2F. -/
def execSra_A (s : State) : Result := rotateRegister .SRA .A s

/-- R206: SWAP B, 0xCB 0x30. -/
def execSwap_B (s : State) : Result := rotateRegister .SWAP .B s

/-- R206: SWAP C, 0xCB 0x31. -/
def execSwap_C (s : State) : Result := rotateRegister .SWAP .C s

/-- R206: SWAP D, 0xCB 0x32. -/
def execSwap_D (s : State) : Result := rotateRegister .SWAP .D s

/-- R206: SWAP E, 0xCB 0x33. -/
def execSwap_E (s : State) : Result := rotateRegister .SWAP .E s

/-- R206: SWAP H, 0xCB 0x34. -/
def execSwap_H (s : State) : Result := rotateRegister .SWAP .H s

/-- R206: SWAP L, 0xCB 0x35. -/
def execSwap_L (s : State) : Result := rotateRegister .SWAP .L s

/-- R207: SWAP (HL), 0xCB 0x36. -/
def execSwap_mHL (s : State) : Result := rotateMemory .SWAP s

/-- R206: SWAP A, 0xCB 0x37. -/
def execSwap_A (s : State) : Result := rotateRegister .SWAP .A s

/-- R208: SRL B, 0xCB 0x38. -/
def execSrl_B (s : State) : Result := rotateRegister .SRL .B s

/-- R208: SRL C, 0xCB 0x39. -/
def execSrl_C (s : State) : Result := rotateRegister .SRL .C s

/-- R208: SRL D, 0xCB 0x3A. -/
def execSrl_D (s : State) : Result := rotateRegister .SRL .D s

/-- R208: SRL E, 0xCB 0x3B. -/
def execSrl_E (s : State) : Result := rotateRegister .SRL .E s

/-- R208: SRL H, 0xCB 0x3C. -/
def execSrl_H (s : State) : Result := rotateRegister .SRL .H s

/-- R208: SRL L, 0xCB 0x3D. -/
def execSrl_L (s : State) : Result := rotateRegister .SRL .L s

/-- R209: SRL (HL), 0xCB 0x3E. -/
def execSrl_mHL (s : State) : Result := rotateMemory .SRL s

/-- R208: SRL A, 0xCB 0x3F. -/
def execSrl_A (s : State) : Result := rotateRegister .SRL .A s

/-- R210: BIT 0,B, 0xCB 0x40. -/
def execBit_0_B (s : State) : Result := testBitRegister .i0 .B s

/-- R210: BIT 0,C, 0xCB 0x41. -/
def execBit_0_C (s : State) : Result := testBitRegister .i0 .C s

/-- R210: BIT 0,D, 0xCB 0x42. -/
def execBit_0_D (s : State) : Result := testBitRegister .i0 .D s

/-- R210: BIT 0,E, 0xCB 0x43. -/
def execBit_0_E (s : State) : Result := testBitRegister .i0 .E s

/-- R210: BIT 0,H, 0xCB 0x44. -/
def execBit_0_H (s : State) : Result := testBitRegister .i0 .H s

/-- R210: BIT 0,L, 0xCB 0x45. -/
def execBit_0_L (s : State) : Result := testBitRegister .i0 .L s

/-- R211: BIT 0,(HL), 0xCB 0x46. -/
def execBit_0_mHL (s : State) : Result := testBitMemory .i0 s

/-- R210: BIT 0,A, 0xCB 0x47. -/
def execBit_0_A (s : State) : Result := testBitRegister .i0 .A s

/-- R210: BIT 1,B, 0xCB 0x48. -/
def execBit_1_B (s : State) : Result := testBitRegister .i1 .B s

/-- R210: BIT 1,C, 0xCB 0x49. -/
def execBit_1_C (s : State) : Result := testBitRegister .i1 .C s

/-- R210: BIT 1,D, 0xCB 0x4A. -/
def execBit_1_D (s : State) : Result := testBitRegister .i1 .D s

/-- R210: BIT 1,E, 0xCB 0x4B. -/
def execBit_1_E (s : State) : Result := testBitRegister .i1 .E s

/-- R210: BIT 1,H, 0xCB 0x4C. -/
def execBit_1_H (s : State) : Result := testBitRegister .i1 .H s

/-- R210: BIT 1,L, 0xCB 0x4D. -/
def execBit_1_L (s : State) : Result := testBitRegister .i1 .L s

/-- R211: BIT 1,(HL), 0xCB 0x4E. -/
def execBit_1_mHL (s : State) : Result := testBitMemory .i1 s

/-- R210: BIT 1,A, 0xCB 0x4F. -/
def execBit_1_A (s : State) : Result := testBitRegister .i1 .A s

/-- R210: BIT 2,B, 0xCB 0x50. -/
def execBit_2_B (s : State) : Result := testBitRegister .i2 .B s

/-- R210: BIT 2,C, 0xCB 0x51. -/
def execBit_2_C (s : State) : Result := testBitRegister .i2 .C s

/-- R210: BIT 2,D, 0xCB 0x52. -/
def execBit_2_D (s : State) : Result := testBitRegister .i2 .D s

/-- R210: BIT 2,E, 0xCB 0x53. -/
def execBit_2_E (s : State) : Result := testBitRegister .i2 .E s

/-- R210: BIT 2,H, 0xCB 0x54. -/
def execBit_2_H (s : State) : Result := testBitRegister .i2 .H s

/-- R210: BIT 2,L, 0xCB 0x55. -/
def execBit_2_L (s : State) : Result := testBitRegister .i2 .L s

/-- R211: BIT 2,(HL), 0xCB 0x56. -/
def execBit_2_mHL (s : State) : Result := testBitMemory .i2 s

/-- R210: BIT 2,A, 0xCB 0x57. -/
def execBit_2_A (s : State) : Result := testBitRegister .i2 .A s

/-- R210: BIT 3,B, 0xCB 0x58. -/
def execBit_3_B (s : State) : Result := testBitRegister .i3 .B s

/-- R210: BIT 3,C, 0xCB 0x59. -/
def execBit_3_C (s : State) : Result := testBitRegister .i3 .C s

/-- R210: BIT 3,D, 0xCB 0x5A. -/
def execBit_3_D (s : State) : Result := testBitRegister .i3 .D s

/-- R210: BIT 3,E, 0xCB 0x5B. -/
def execBit_3_E (s : State) : Result := testBitRegister .i3 .E s

/-- R210: BIT 3,H, 0xCB 0x5C. -/
def execBit_3_H (s : State) : Result := testBitRegister .i3 .H s

/-- R210: BIT 3,L, 0xCB 0x5D. -/
def execBit_3_L (s : State) : Result := testBitRegister .i3 .L s

/-- R211: BIT 3,(HL), 0xCB 0x5E. -/
def execBit_3_mHL (s : State) : Result := testBitMemory .i3 s

/-- R210: BIT 3,A, 0xCB 0x5F. -/
def execBit_3_A (s : State) : Result := testBitRegister .i3 .A s

/-- R210: BIT 4,B, 0xCB 0x60. -/
def execBit_4_B (s : State) : Result := testBitRegister .i4 .B s

/-- R210: BIT 4,C, 0xCB 0x61. -/
def execBit_4_C (s : State) : Result := testBitRegister .i4 .C s

/-- R210: BIT 4,D, 0xCB 0x62. -/
def execBit_4_D (s : State) : Result := testBitRegister .i4 .D s

/-- R210: BIT 4,E, 0xCB 0x63. -/
def execBit_4_E (s : State) : Result := testBitRegister .i4 .E s

/-- R210: BIT 4,H, 0xCB 0x64. -/
def execBit_4_H (s : State) : Result := testBitRegister .i4 .H s

/-- R210: BIT 4,L, 0xCB 0x65. -/
def execBit_4_L (s : State) : Result := testBitRegister .i4 .L s

/-- R211: BIT 4,(HL), 0xCB 0x66. -/
def execBit_4_mHL (s : State) : Result := testBitMemory .i4 s

/-- R210: BIT 4,A, 0xCB 0x67. -/
def execBit_4_A (s : State) : Result := testBitRegister .i4 .A s

/-- R210: BIT 5,B, 0xCB 0x68. -/
def execBit_5_B (s : State) : Result := testBitRegister .i5 .B s

/-- R210: BIT 5,C, 0xCB 0x69. -/
def execBit_5_C (s : State) : Result := testBitRegister .i5 .C s

/-- R210: BIT 5,D, 0xCB 0x6A. -/
def execBit_5_D (s : State) : Result := testBitRegister .i5 .D s

/-- R210: BIT 5,E, 0xCB 0x6B. -/
def execBit_5_E (s : State) : Result := testBitRegister .i5 .E s

/-- R210: BIT 5,H, 0xCB 0x6C. -/
def execBit_5_H (s : State) : Result := testBitRegister .i5 .H s

/-- R210: BIT 5,L, 0xCB 0x6D. -/
def execBit_5_L (s : State) : Result := testBitRegister .i5 .L s

/-- R211: BIT 5,(HL), 0xCB 0x6E. -/
def execBit_5_mHL (s : State) : Result := testBitMemory .i5 s

/-- R210: BIT 5,A, 0xCB 0x6F. -/
def execBit_5_A (s : State) : Result := testBitRegister .i5 .A s

/-- R210: BIT 6,B, 0xCB 0x70. -/
def execBit_6_B (s : State) : Result := testBitRegister .i6 .B s

/-- R210: BIT 6,C, 0xCB 0x71. -/
def execBit_6_C (s : State) : Result := testBitRegister .i6 .C s

/-- R210: BIT 6,D, 0xCB 0x72. -/
def execBit_6_D (s : State) : Result := testBitRegister .i6 .D s

/-- R210: BIT 6,E, 0xCB 0x73. -/
def execBit_6_E (s : State) : Result := testBitRegister .i6 .E s

/-- R210: BIT 6,H, 0xCB 0x74. -/
def execBit_6_H (s : State) : Result := testBitRegister .i6 .H s

/-- R210: BIT 6,L, 0xCB 0x75. -/
def execBit_6_L (s : State) : Result := testBitRegister .i6 .L s

/-- R211: BIT 6,(HL), 0xCB 0x76. -/
def execBit_6_mHL (s : State) : Result := testBitMemory .i6 s

/-- R210: BIT 6,A, 0xCB 0x77. -/
def execBit_6_A (s : State) : Result := testBitRegister .i6 .A s

/-- R210: BIT 7,B, 0xCB 0x78. -/
def execBit_7_B (s : State) : Result := testBitRegister .i7 .B s

/-- R210: BIT 7,C, 0xCB 0x79. -/
def execBit_7_C (s : State) : Result := testBitRegister .i7 .C s

/-- R210: BIT 7,D, 0xCB 0x7A. -/
def execBit_7_D (s : State) : Result := testBitRegister .i7 .D s

/-- R210: BIT 7,E, 0xCB 0x7B. -/
def execBit_7_E (s : State) : Result := testBitRegister .i7 .E s

/-- R210: BIT 7,H, 0xCB 0x7C. -/
def execBit_7_H (s : State) : Result := testBitRegister .i7 .H s

/-- R210: BIT 7,L, 0xCB 0x7D. -/
def execBit_7_L (s : State) : Result := testBitRegister .i7 .L s

/-- R211: BIT 7,(HL), 0xCB 0x7E. -/
def execBit_7_mHL (s : State) : Result := testBitMemory .i7 s

/-- R210: BIT 7,A, 0xCB 0x7F. -/
def execBit_7_A (s : State) : Result := testBitRegister .i7 .A s

/-- R212: RES 0,B, 0xCB 0x80. -/
def execRes_0_B (s : State) : Result := resetBitRegister .i0 .B s

/-- R212: RES 0,C, 0xCB 0x81. -/
def execRes_0_C (s : State) : Result := resetBitRegister .i0 .C s

/-- R212: RES 0,D, 0xCB 0x82. -/
def execRes_0_D (s : State) : Result := resetBitRegister .i0 .D s

/-- R212: RES 0,E, 0xCB 0x83. -/
def execRes_0_E (s : State) : Result := resetBitRegister .i0 .E s

/-- R212: RES 0,H, 0xCB 0x84. -/
def execRes_0_H (s : State) : Result := resetBitRegister .i0 .H s

/-- R212: RES 0,L, 0xCB 0x85. -/
def execRes_0_L (s : State) : Result := resetBitRegister .i0 .L s

/-- R213: RES 0,(HL), 0xCB 0x86. -/
def execRes_0_mHL (s : State) : Result := resetBitMemory .i0 s

/-- R212: RES 0,A, 0xCB 0x87. -/
def execRes_0_A (s : State) : Result := resetBitRegister .i0 .A s

/-- R212: RES 1,B, 0xCB 0x88. -/
def execRes_1_B (s : State) : Result := resetBitRegister .i1 .B s

/-- R212: RES 1,C, 0xCB 0x89. -/
def execRes_1_C (s : State) : Result := resetBitRegister .i1 .C s

/-- R212: RES 1,D, 0xCB 0x8A. -/
def execRes_1_D (s : State) : Result := resetBitRegister .i1 .D s

/-- R212: RES 1,E, 0xCB 0x8B. -/
def execRes_1_E (s : State) : Result := resetBitRegister .i1 .E s

/-- R212: RES 1,H, 0xCB 0x8C. -/
def execRes_1_H (s : State) : Result := resetBitRegister .i1 .H s

/-- R212: RES 1,L, 0xCB 0x8D. -/
def execRes_1_L (s : State) : Result := resetBitRegister .i1 .L s

/-- R213: RES 1,(HL), 0xCB 0x8E. -/
def execRes_1_mHL (s : State) : Result := resetBitMemory .i1 s

/-- R212: RES 1,A, 0xCB 0x8F. -/
def execRes_1_A (s : State) : Result := resetBitRegister .i1 .A s

/-- R212: RES 2,B, 0xCB 0x90. -/
def execRes_2_B (s : State) : Result := resetBitRegister .i2 .B s

/-- R212: RES 2,C, 0xCB 0x91. -/
def execRes_2_C (s : State) : Result := resetBitRegister .i2 .C s

/-- R212: RES 2,D, 0xCB 0x92. -/
def execRes_2_D (s : State) : Result := resetBitRegister .i2 .D s

/-- R212: RES 2,E, 0xCB 0x93. -/
def execRes_2_E (s : State) : Result := resetBitRegister .i2 .E s

/-- R212: RES 2,H, 0xCB 0x94. -/
def execRes_2_H (s : State) : Result := resetBitRegister .i2 .H s

/-- R212: RES 2,L, 0xCB 0x95. -/
def execRes_2_L (s : State) : Result := resetBitRegister .i2 .L s

/-- R213: RES 2,(HL), 0xCB 0x96. -/
def execRes_2_mHL (s : State) : Result := resetBitMemory .i2 s

/-- R212: RES 2,A, 0xCB 0x97. -/
def execRes_2_A (s : State) : Result := resetBitRegister .i2 .A s

/-- R212: RES 3,B, 0xCB 0x98. -/
def execRes_3_B (s : State) : Result := resetBitRegister .i3 .B s

/-- R212: RES 3,C, 0xCB 0x99. -/
def execRes_3_C (s : State) : Result := resetBitRegister .i3 .C s

/-- R212: RES 3,D, 0xCB 0x9A. -/
def execRes_3_D (s : State) : Result := resetBitRegister .i3 .D s

/-- R212: RES 3,E, 0xCB 0x9B. -/
def execRes_3_E (s : State) : Result := resetBitRegister .i3 .E s

/-- R212: RES 3,H, 0xCB 0x9C. -/
def execRes_3_H (s : State) : Result := resetBitRegister .i3 .H s

/-- R212: RES 3,L, 0xCB 0x9D. -/
def execRes_3_L (s : State) : Result := resetBitRegister .i3 .L s

/-- R213: RES 3,(HL), 0xCB 0x9E. -/
def execRes_3_mHL (s : State) : Result := resetBitMemory .i3 s

/-- R212: RES 3,A, 0xCB 0x9F. -/
def execRes_3_A (s : State) : Result := resetBitRegister .i3 .A s

/-- R212: RES 4,B, 0xCB 0xA0. -/
def execRes_4_B (s : State) : Result := resetBitRegister .i4 .B s

/-- R212: RES 4,C, 0xCB 0xA1. -/
def execRes_4_C (s : State) : Result := resetBitRegister .i4 .C s

/-- R212: RES 4,D, 0xCB 0xA2. -/
def execRes_4_D (s : State) : Result := resetBitRegister .i4 .D s

/-- R212: RES 4,E, 0xCB 0xA3. -/
def execRes_4_E (s : State) : Result := resetBitRegister .i4 .E s

/-- R212: RES 4,H, 0xCB 0xA4. -/
def execRes_4_H (s : State) : Result := resetBitRegister .i4 .H s

/-- R212: RES 4,L, 0xCB 0xA5. -/
def execRes_4_L (s : State) : Result := resetBitRegister .i4 .L s

/-- R213: RES 4,(HL), 0xCB 0xA6. -/
def execRes_4_mHL (s : State) : Result := resetBitMemory .i4 s

/-- R212: RES 4,A, 0xCB 0xA7. -/
def execRes_4_A (s : State) : Result := resetBitRegister .i4 .A s

/-- R212: RES 5,B, 0xCB 0xA8. -/
def execRes_5_B (s : State) : Result := resetBitRegister .i5 .B s

/-- R212: RES 5,C, 0xCB 0xA9. -/
def execRes_5_C (s : State) : Result := resetBitRegister .i5 .C s

/-- R212: RES 5,D, 0xCB 0xAA. -/
def execRes_5_D (s : State) : Result := resetBitRegister .i5 .D s

/-- R212: RES 5,E, 0xCB 0xAB. -/
def execRes_5_E (s : State) : Result := resetBitRegister .i5 .E s

/-- R212: RES 5,H, 0xCB 0xAC. -/
def execRes_5_H (s : State) : Result := resetBitRegister .i5 .H s

/-- R212: RES 5,L, 0xCB 0xAD. -/
def execRes_5_L (s : State) : Result := resetBitRegister .i5 .L s

/-- R213: RES 5,(HL), 0xCB 0xAE. -/
def execRes_5_mHL (s : State) : Result := resetBitMemory .i5 s

/-- R212: RES 5,A, 0xCB 0xAF. -/
def execRes_5_A (s : State) : Result := resetBitRegister .i5 .A s

/-- R212: RES 6,B, 0xCB 0xB0. -/
def execRes_6_B (s : State) : Result := resetBitRegister .i6 .B s

/-- R212: RES 6,C, 0xCB 0xB1. -/
def execRes_6_C (s : State) : Result := resetBitRegister .i6 .C s

/-- R212: RES 6,D, 0xCB 0xB2. -/
def execRes_6_D (s : State) : Result := resetBitRegister .i6 .D s

/-- R212: RES 6,E, 0xCB 0xB3. -/
def execRes_6_E (s : State) : Result := resetBitRegister .i6 .E s

/-- R212: RES 6,H, 0xCB 0xB4. -/
def execRes_6_H (s : State) : Result := resetBitRegister .i6 .H s

/-- R212: RES 6,L, 0xCB 0xB5. -/
def execRes_6_L (s : State) : Result := resetBitRegister .i6 .L s

/-- R213: RES 6,(HL), 0xCB 0xB6. -/
def execRes_6_mHL (s : State) : Result := resetBitMemory .i6 s

/-- R212: RES 6,A, 0xCB 0xB7. -/
def execRes_6_A (s : State) : Result := resetBitRegister .i6 .A s

/-- R212: RES 7,B, 0xCB 0xB8. -/
def execRes_7_B (s : State) : Result := resetBitRegister .i7 .B s

/-- R212: RES 7,C, 0xCB 0xB9. -/
def execRes_7_C (s : State) : Result := resetBitRegister .i7 .C s

/-- R212: RES 7,D, 0xCB 0xBA. -/
def execRes_7_D (s : State) : Result := resetBitRegister .i7 .D s

/-- R212: RES 7,E, 0xCB 0xBB. -/
def execRes_7_E (s : State) : Result := resetBitRegister .i7 .E s

/-- R212: RES 7,H, 0xCB 0xBC. -/
def execRes_7_H (s : State) : Result := resetBitRegister .i7 .H s

/-- R212: RES 7,L, 0xCB 0xBD. -/
def execRes_7_L (s : State) : Result := resetBitRegister .i7 .L s

/-- R213: RES 7,(HL), 0xCB 0xBE. -/
def execRes_7_mHL (s : State) : Result := resetBitMemory .i7 s

/-- R212: RES 7,A, 0xCB 0xBF. -/
def execRes_7_A (s : State) : Result := resetBitRegister .i7 .A s

/-- R214: SET 0,B, 0xCB 0xC0. -/
def execSet_0_B (s : State) : Result := setBitRegister .i0 .B s

/-- R214: SET 0,C, 0xCB 0xC1. -/
def execSet_0_C (s : State) : Result := setBitRegister .i0 .C s

/-- R214: SET 0,D, 0xCB 0xC2. -/
def execSet_0_D (s : State) : Result := setBitRegister .i0 .D s

/-- R214: SET 0,E, 0xCB 0xC3. -/
def execSet_0_E (s : State) : Result := setBitRegister .i0 .E s

/-- R214: SET 0,H, 0xCB 0xC4. -/
def execSet_0_H (s : State) : Result := setBitRegister .i0 .H s

/-- R214: SET 0,L, 0xCB 0xC5. -/
def execSet_0_L (s : State) : Result := setBitRegister .i0 .L s

/-- R215: SET 0,(HL), 0xCB 0xC6. -/
def execSet_0_mHL (s : State) : Result := setBitMemory .i0 s

/-- R214: SET 0,A, 0xCB 0xC7. -/
def execSet_0_A (s : State) : Result := setBitRegister .i0 .A s

/-- R214: SET 1,B, 0xCB 0xC8. -/
def execSet_1_B (s : State) : Result := setBitRegister .i1 .B s

/-- R214: SET 1,C, 0xCB 0xC9. -/
def execSet_1_C (s : State) : Result := setBitRegister .i1 .C s

/-- R214: SET 1,D, 0xCB 0xCA. -/
def execSet_1_D (s : State) : Result := setBitRegister .i1 .D s

/-- R214: SET 1,E, 0xCB 0xCB. -/
def execSet_1_E (s : State) : Result := setBitRegister .i1 .E s

/-- R214: SET 1,H, 0xCB 0xCC. -/
def execSet_1_H (s : State) : Result := setBitRegister .i1 .H s

/-- R214: SET 1,L, 0xCB 0xCD. -/
def execSet_1_L (s : State) : Result := setBitRegister .i1 .L s

/-- R215: SET 1,(HL), 0xCB 0xCE. -/
def execSet_1_mHL (s : State) : Result := setBitMemory .i1 s

/-- R214: SET 1,A, 0xCB 0xCF. -/
def execSet_1_A (s : State) : Result := setBitRegister .i1 .A s

/-- R214: SET 2,B, 0xCB 0xD0. -/
def execSet_2_B (s : State) : Result := setBitRegister .i2 .B s

/-- R214: SET 2,C, 0xCB 0xD1. -/
def execSet_2_C (s : State) : Result := setBitRegister .i2 .C s

/-- R214: SET 2,D, 0xCB 0xD2. -/
def execSet_2_D (s : State) : Result := setBitRegister .i2 .D s

/-- R214: SET 2,E, 0xCB 0xD3. -/
def execSet_2_E (s : State) : Result := setBitRegister .i2 .E s

/-- R214: SET 2,H, 0xCB 0xD4. -/
def execSet_2_H (s : State) : Result := setBitRegister .i2 .H s

/-- R214: SET 2,L, 0xCB 0xD5. -/
def execSet_2_L (s : State) : Result := setBitRegister .i2 .L s

/-- R215: SET 2,(HL), 0xCB 0xD6. -/
def execSet_2_mHL (s : State) : Result := setBitMemory .i2 s

/-- R214: SET 2,A, 0xCB 0xD7. -/
def execSet_2_A (s : State) : Result := setBitRegister .i2 .A s

/-- R214: SET 3,B, 0xCB 0xD8. -/
def execSet_3_B (s : State) : Result := setBitRegister .i3 .B s

/-- R214: SET 3,C, 0xCB 0xD9. -/
def execSet_3_C (s : State) : Result := setBitRegister .i3 .C s

/-- R214: SET 3,D, 0xCB 0xDA. -/
def execSet_3_D (s : State) : Result := setBitRegister .i3 .D s

/-- R214: SET 3,E, 0xCB 0xDB. -/
def execSet_3_E (s : State) : Result := setBitRegister .i3 .E s

/-- R214: SET 3,H, 0xCB 0xDC. -/
def execSet_3_H (s : State) : Result := setBitRegister .i3 .H s

/-- R214: SET 3,L, 0xCB 0xDD. -/
def execSet_3_L (s : State) : Result := setBitRegister .i3 .L s

/-- R215: SET 3,(HL), 0xCB 0xDE. -/
def execSet_3_mHL (s : State) : Result := setBitMemory .i3 s

/-- R214: SET 3,A, 0xCB 0xDF. -/
def execSet_3_A (s : State) : Result := setBitRegister .i3 .A s

/-- R214: SET 4,B, 0xCB 0xE0. -/
def execSet_4_B (s : State) : Result := setBitRegister .i4 .B s

/-- R214: SET 4,C, 0xCB 0xE1. -/
def execSet_4_C (s : State) : Result := setBitRegister .i4 .C s

/-- R214: SET 4,D, 0xCB 0xE2. -/
def execSet_4_D (s : State) : Result := setBitRegister .i4 .D s

/-- R214: SET 4,E, 0xCB 0xE3. -/
def execSet_4_E (s : State) : Result := setBitRegister .i4 .E s

/-- R214: SET 4,H, 0xCB 0xE4. -/
def execSet_4_H (s : State) : Result := setBitRegister .i4 .H s

/-- R214: SET 4,L, 0xCB 0xE5. -/
def execSet_4_L (s : State) : Result := setBitRegister .i4 .L s

/-- R215: SET 4,(HL), 0xCB 0xE6. -/
def execSet_4_mHL (s : State) : Result := setBitMemory .i4 s

/-- R214: SET 4,A, 0xCB 0xE7. -/
def execSet_4_A (s : State) : Result := setBitRegister .i4 .A s

/-- R214: SET 5,B, 0xCB 0xE8. -/
def execSet_5_B (s : State) : Result := setBitRegister .i5 .B s

/-- R214: SET 5,C, 0xCB 0xE9. -/
def execSet_5_C (s : State) : Result := setBitRegister .i5 .C s

/-- R214: SET 5,D, 0xCB 0xEA. -/
def execSet_5_D (s : State) : Result := setBitRegister .i5 .D s

/-- R214: SET 5,E, 0xCB 0xEB. -/
def execSet_5_E (s : State) : Result := setBitRegister .i5 .E s

/-- R214: SET 5,H, 0xCB 0xEC. -/
def execSet_5_H (s : State) : Result := setBitRegister .i5 .H s

/-- R214: SET 5,L, 0xCB 0xED. -/
def execSet_5_L (s : State) : Result := setBitRegister .i5 .L s

/-- R215: SET 5,(HL), 0xCB 0xEE. -/
def execSet_5_mHL (s : State) : Result := setBitMemory .i5 s

/-- R214: SET 5,A, 0xCB 0xEF. -/
def execSet_5_A (s : State) : Result := setBitRegister .i5 .A s

/-- R214: SET 6,B, 0xCB 0xF0. -/
def execSet_6_B (s : State) : Result := setBitRegister .i6 .B s

/-- R214: SET 6,C, 0xCB 0xF1. -/
def execSet_6_C (s : State) : Result := setBitRegister .i6 .C s

/-- R214: SET 6,D, 0xCB 0xF2. -/
def execSet_6_D (s : State) : Result := setBitRegister .i6 .D s

/-- R214: SET 6,E, 0xCB 0xF3. -/
def execSet_6_E (s : State) : Result := setBitRegister .i6 .E s

/-- R214: SET 6,H, 0xCB 0xF4. -/
def execSet_6_H (s : State) : Result := setBitRegister .i6 .H s

/-- R214: SET 6,L, 0xCB 0xF5. -/
def execSet_6_L (s : State) : Result := setBitRegister .i6 .L s

/-- R215: SET 6,(HL), 0xCB 0xF6. -/
def execSet_6_mHL (s : State) : Result := setBitMemory .i6 s

/-- R214: SET 6,A, 0xCB 0xF7. -/
def execSet_6_A (s : State) : Result := setBitRegister .i6 .A s

/-- R214: SET 7,B, 0xCB 0xF8. -/
def execSet_7_B (s : State) : Result := setBitRegister .i7 .B s

/-- R214: SET 7,C, 0xCB 0xF9. -/
def execSet_7_C (s : State) : Result := setBitRegister .i7 .C s

/-- R214: SET 7,D, 0xCB 0xFA. -/
def execSet_7_D (s : State) : Result := setBitRegister .i7 .D s

/-- R214: SET 7,E, 0xCB 0xFB. -/
def execSet_7_E (s : State) : Result := setBitRegister .i7 .E s

/-- R214: SET 7,H, 0xCB 0xFC. -/
def execSet_7_H (s : State) : Result := setBitRegister .i7 .H s

/-- R214: SET 7,L, 0xCB 0xFD. -/
def execSet_7_L (s : State) : Result := setBitRegister .i7 .L s

/-- R215: SET 7,(HL), 0xCB 0xFE. -/
def execSet_7_mHL (s : State) : Result := setBitMemory .i7 s

/-- R214: SET 7,A, 0xCB 0xFF. -/
def execSet_7_A (s : State) : Result := setBitRegister .i7 .A s

end Sys2Proof.Machine
end

