-- ==== Sys2Proof/Machine/Timing.lean ====
section
/-! DEFINITION. The pixel-timing controller (60_exceptions.md section 5): `Timing.advance` with the excess carried over
every boundary (R319, 90_conflicts.md C1), and what V-blank entry does to the rest of the state (R320). -/

namespace Sys2Proof.Machine

/-- The duration of a mode, in clock ticks; of V-blank, of one line (R318). -/
def TimingMode.duration (m : TimingMode) : Nat :=
  match m with
  | .oamScan => 80
  | .vramRead => 172
  | .hBlank => 204
  | .vBlank => 456

/-- The scanline at which V-blank is entered (R318, 90_conflicts.md C2). -/
def vBlankLine : Nat := 143

/-- The last scanline of a frame (R318). -/
def lastLine : Nat := 153

/-- One transition out of a mode whose duration is over (R318, R319): the duration is taken off the counter and the
excess stays. Entering V-blank emits FrameReady (R320). -/
def Timing.transition (t : Timing) : Timing :=
  let left := t.modeCycles - t.mode.duration
  match t.mode with
  | .oamScan => { t with mode := .vramRead, modeCycles := left }
  | .vramRead => { t with mode := .hBlank, modeCycles := left }
  | .hBlank =>
    if t.scanline + 1 = vBlankLine then
      { t with mode := .vBlank, modeCycles := left, scanline := t.scanline + 1, framesReady := t.framesReady + 1 }
    else { t with mode := .oamScan, modeCycles := left, scanline := t.scanline + 1 }
  | .vBlank =>
    if t.scanline + 1 > lastLine then { t with mode := .oamScan, modeCycles := left, scanline := 0 }
    else { t with modeCycles := left, scanline := t.scanline + 1 }

/-- The loop of R319: transitions while the counter has reached the mode's duration. Each takes at least 80 cycles off
the counter, so as many turns as the counter has cycles are always enough. -/
def Timing.settle (turns : Nat) (t : Timing) : Timing :=
  match turns with
  | 0 => t
  | k + 1 => if t.modeCycles ≥ t.mode.duration then Timing.settle k t.transition else t

/-- `Timing.advance(n)` on the controller's registers (R319). -/
def Timing.advance (t : Timing) (n : Nat) : Timing :=
  Timing.settle (t.modeCycles + n) { t with modeCycles := t.modeCycles + n }

/-- `Timing.advance(n)` (R319): the controller moves, and when V-blank was entered and `vblank_requests_if` is true, IF
bit 0 is set (R320; log entry 17). -/
def State.advance (s : State) (n : Nat) : State :=
  let t := s.timing.advance n
  let s1 := { s with timing := t }
  if s.vblankRequestsIf && t.framesReady != s.timing.framesReady then s1.requestInterrupts 1#5 else s1

end Sys2Proof.Machine
end

