-- ==== Sys2Proof/Machine/Loop.lean ====
section
/-! DEFINITION. The decoder step (30_encoding.md R89 to R91), the machine step of the Driving Loop (60_exceptions.md
R314) and what the environment does between two machine steps (R308, R316). -/

namespace Sys2Proof.Machine

/-- Fetch one whole instruction: the opcode byte, then as many bytes as it asks for, each by `FetchByte()` (R89, R90,
R97). Answers the instruction and the state with PC at the next one. -/
def State.fetchInstr (s : State) : Instr × State :=
  let b0 := s.readByte s.pc
  let s1 := s.afterFetch
  if instrLength b0 = 1 then (decodeBytes b0 0 0, s1)
  else
    let b1 := s1.readByte s1.pc
    let s2 := s1.afterFetch
    if instrLength b0 = 2 then (decodeBytes b0 b1 0, s2)
    else (decodeBytes b0 b1 (s2.readByte s2.pc), s2.afterFetch)

/-- What the decoder step does after its instruction (R90): an illegal opcode discards every effect of the step but the
fault record (R91, R301), and a pending EI sets IME unless the instruction is DI. `pre` is the state before the step. -/
def completeStep (pre : State) (i : Instr) (r : Result) : Result :=
  match r with
  | .next t =>
    match t.fault with
    | some report => .next { pre with fault := some report, lastCycles := none }
    | none => .next (if pre.eiDelay && i != .di then { t with ime := true } else t)
  | .fault f => .fault f
  | .refused f => .refused f

/-- `Decoder.step()` (R90). The cycle count it returns is `lastCycles` of the next state. -/
def decoderStep (s : State) : Result :=
  let f := { s with eiDelay := false }.fetchInstr
  completeStep s f.1 (exec f.1 f.2)

/-- The timing advance that follows a decoder step (R314): by the cycles the step returned. A step that returned none,
an illegal opcode, advances nothing (R301). -/
def advanceAfter (r : Result) : Result :=
  match r with
  | .next t =>
    match t.lastCycles with
    | some n => .next (t.advance n)
    | none => .next t
  | .fault f => .fault f
  | .refused f => .refused f

/-- `MachineStep()` (R314). With a fault recorded there is no further step and the report goes out (R301). A stopped
core does nothing (R316). A halted core with nothing pending idles (R315). Otherwise a pending interrupt is dispatched
when IME is 1, or the next instruction runs. -/
def machineStep (s : State) : Result :=
  match s.fault with
  | some report => .fault (.illegalOpcode report)
  | none =>
    if s.stopped then .next { s with lastCycles := none }
    else if s.halted && s.pending == 0x00#8 then .next { s.advance idleCost with lastCycles := some idleCost }
    else
      let s1 := { s with halted := false }
      if s1.ime && s1.pending != 0x00#8 then .next ((s1.dispatch (lowestBit s1.pending)).advance dispatchCost)
      else advanceAfter (decoderStep s1)

/-- What the environment does before a machine step: the requester's IF bits are set (R308) and the host's wake event
clears `stopped` (R316). With no input left it does nothing (log entry 4). -/
def State.environment (s : State) : State :=
  match s.inputs with
  | [] => s
  | e :: rest => { s.requestInterrupts e.requests with inputs := rest, stopped := s.stopped && !e.wake }

end Sys2Proof.Machine
end

