-- ==== Sys2Proof/Machine/Step.lean ====
section
/-! DEFINITION. One step of the machine: what the environment does between two machine steps, then one machine step
(60_exceptions.md R314). And the placing of one instruction where the next step fetches it. -/

namespace Sys2Proof.Machine

/-- One step: the environment's turn (R308, R316), then `MachineStep()` (R314). -/
def step (s : State) : Host.Outcome State Fault Refusal := machineStep s.environment

/-- The state with one instruction of the opcode table placed at PC, so that the next step fetches and runs it: its
bytes are stored as a loader stores them, and whatever would keep the next step from fetching is taken away (a fault
record, a halted or stopped core, inputs, a dispatch that is due). At State.reset none of these is there, and only
memory changes (log entry 8). -/
def State.withFetchWord (s : State) (nbits w : Nat) : State :=
  let b := tableBytes nbits w
  let s1 := { s with fault := none, halted := false, stopped := false, inputs := [] }
  let s2 := ((s1.poke s.pc b.1).poke (s.pc + 1) b.2.1).poke (s.pc + 2) b.2.2
  { s2 with ime := s2.ime && s2.pending == 0x00#8 }

end Sys2Proof.Machine
end

