-- ==== Sys2Proof/WellFormed.lean ====
section
/-! DEFINITION. Which terms of Instr are instructions: the operand fields have the widths of R80 by their types, so the
one check is that the row is no illegal byte (R95, R96). -/

namespace Sys2Proof

/-- A well-formed instruction is one of the 500 that have a handler (R96); a row of an illegal byte (R95) is none. -/
def Instr.wf (i : Instr) : Bool :=
  match i.form with
  | .illegal _ => false
  | .ldRegReg _ _ | .ldRegHL _ | .ldHLReg _ | .ldRegImm _ _ | .ldHLImm _ | .ldABC | .ldADE | .ldBCA | .ldDEA
  | .ldHLIncA | .ldHLDecA | .ldAHLInc | .ldAHLDec | .ldAddrA _ | .ldAAddr _ | .ldhAddrA _ | .ldhAAddr _ | .ldCA | .ldAC
  | .ldPairImm _ _ | .ldAddrSP _ | .ldSPHL | .push _ | .pop _ => true
  | .aluReg _ _ | .aluHL _ | .aluImm _ _ | .incReg _ | .incHL | .decReg _ | .decHL => true
  | .addHL _ | .incPair _ | .decPair _ | .addSP _ | .ldHLSP _ => true
  | .rlca | .rrca | .rla | .rra | .rotReg _ _ | .rotHL _ | .bitReg _ _ | .bitHL _ | .resReg _ _ | .resHL _
  | .setReg _ _ | .setHL _ => true
  | .jp _ | .jpCond _ _ | .jpHL | .jr _ | .jrCond _ _ | .call _ | .callCond _ _ | .ret | .retCond _ | .reti
  | .rst _ => true
  | .nop | .daa | .cpl | .scf | .ccf | .di | .ei | .halt | .stop _ => true

end Sys2Proof
end

