-- ==== Sys2Proof/Safety.lean ====
section
/-! DEFINITION. The terms the claims use: which storage byte an address reaches, what each instruction may store to,
write and cost, what a legal state is, and what a run step is. -/

namespace Sys2Proof.Machine

/-! ## Storage bytes -/

/-- The storage cell an address reaches (R51): none in ROM bank 1, in the unused range and at 0xFF44; in the echo range
the working-RAM cell (R58). -/
def cellOf (addr : Word) : Option Nat :=
  match region addr with
  | .ie | .hram | .oam | .wram | .eram | .vram | .rom0 => some addr.toNat
  | .io => if addr = lyAddr then none else some addr.toNat
  | .echo => some (addr.toNat - 0x2000)
  | .unused | .rom1 => none

/-- Two addresses reach one storage byte: they are equal, or one is the other's echo (R58). -/
def sameByte (a b : Word) : Bool := (cellOf a).isSome && cellOf a == cellOf b

/-- A storage byte that keeps what is written: writes to it are not ignored (R52) and a read gives the byte, not the
host's draw (R63). -/
def plainStorage (addr : Word) : Bool :=
  match region addr with
  | .ie | .hram | .oam | .wram | .eram | .vram | .echo => true
  | .io => addr != lyAddr && addr != joypAddr
  | .unused | .rom1 | .rom0 => false

end Sys2Proof.Machine

namespace Sys2Proof

open Sys2Proof.Machine

/-! ## What an instruction does, by its form -/

/-- The addresses an instruction stores to, in the state it runs in (PC already at PC_next), by the same expressions its
meaning uses. A form not named here stores nothing. -/
def Form.storeAddrs (f : Form) (s : State) : List Word :=
  match f with
  | .ldHLReg _ | .ldHLImm _ | .ldHLIncA | .ldHLDecA | .incHL | .decHL | .rotHL _ | .resHL _ | .setHL _ => [s.hl]
  | .ldBCA => [s.bc]
  | .ldDEA => [s.de]
  | .ldAddrA a16 => [a16]
  | .ldhAddrA a8 => [highPage a8]
  | .ldCA => [highPage s.regs.c]
  | .ldAddrSP a16 => [a16, a16 + 1]
  | .push _ | .call _ | .rst _ => [s.sp - 2, s.sp - 2 + 1]
  | .callCond cc _ => if s.flags.holds cc then [s.sp - 2, s.sp - 2 + 1] else []
  | .ldRegReg _ _ | .ldRegHL _ | .ldRegImm _ _ | .ldABC | .ldADE | .ldAHLInc | .ldAHLDec | .ldAAddr _ | .ldhAAddr _
  | .ldAC | .ldPairImm _ _ | .ldSPHL | .pop _ => []
  | .aluReg _ _ | .aluHL _ | .aluImm _ _ | .incReg _ | .decReg _ | .addHL _ | .incPair _ | .decPair _ | .addSP _
  | .ldHLSP _ => []
  | .rlca | .rrca | .rla | .rra | .rotReg _ _ | .bitReg _ _ | .bitHL _ | .resReg _ _ | .setReg _ _ => []
  | .jp _ | .jpCond _ _ | .jpHL | .jr _ | .jrCond _ _ | .ret | .retCond _ | .reti => []
  | .nop | .daa | .cpl | .scf | .ccf | .di | .ei | .halt | .stop _ | .illegal _ => []

/-- The halves of a pair. -/
def Reg16.halves (p : Reg16) : List Reg8 :=
  match p with
  | .BC => [.B, .C]
  | .DE => [.D, .E]
  | .HL => [.H, .L]
  | .SP => []

/-- The 8-bit registers an instruction writes (R20 to R22): its destination, and HL where the addressing mode moves it. -/
def Form.writesRegs (f : Form) : List Reg8 :=
  match f with
  | .ldRegReg d _ | .ldRegHL d | .ldRegImm d _ => [d]
  | .incReg r | .decReg r | .rotReg _ r | .resReg _ r | .setReg _ r => [r]
  | .ldABC | .ldADE | .ldAAddr _ | .ldhAAddr _ | .ldAC => [.A]
  | .ldAHLInc | .ldAHLDec => [.A, .H, .L]
  | .ldHLIncA | .ldHLDecA | .ldHLSP _ | .addHL _ => [.H, .L]
  | .ldPairImm p _ | .incPair p | .decPair p => Reg16.halves p
  | .pop .BC => [.B, .C]
  | .pop .DE => [.D, .E]
  | .pop .HL => [.H, .L]
  | .pop .AF => [.A]
  | .aluReg .CP _ | .aluHL .CP | .aluImm .CP _ => []
  | .aluReg _ _ | .aluHL _ | .aluImm _ _ | .rlca | .rrca | .rla | .rra | .daa | .cpl => [.A]
  | .ldHLReg _ | .ldHLImm _ | .ldBCA | .ldDEA | .ldAddrA _ | .ldhAddrA _ | .ldCA | .ldAddrSP _ | .ldSPHL | .push _ => []
  | .incHL | .decHL | .addSP _ | .rotHL _ | .bitReg _ _ | .bitHL _ | .resHL _ | .setHL _ => []
  | .jp _ | .jpCond _ _ | .jpHL | .jr _ | .jrCond _ _ | .call _ | .callCond _ _ | .ret | .retCond _ | .reti | .rst _ => []
  | .nop | .scf | .ccf | .di | .ei | .halt | .stop _ | .illegal _ => []

/-- Whether an instruction may write SP (R26). -/
def Form.writesSP (f : Form) : Bool :=
  match f with
  | .push _ | .pop _ | .call _ | .callCond _ _ | .ret | .retCond _ | .reti | .rst _ | .ldSPHL | .addSP _ => true
  | .ldPairImm .SP _ | .incPair .SP | .decPair .SP => true
  | .ldPairImm _ _ | .incPair _ | .decPair _ => false
  | .ldRegReg _ _ | .ldRegHL _ | .ldHLReg _ | .ldRegImm _ _ | .ldHLImm _ | .ldABC | .ldADE | .ldBCA | .ldDEA
  | .ldHLIncA | .ldHLDecA | .ldAHLInc | .ldAHLDec | .ldAddrA _ | .ldAAddr _ | .ldhAddrA _ | .ldhAAddr _ | .ldCA | .ldAC
  | .ldAddrSP _ => false
  | .aluReg _ _ | .aluHL _ | .aluImm _ _ | .incReg _ | .incHL | .decReg _ | .decHL | .addHL _ | .ldHLSP _ => false
  | .rlca | .rrca | .rla | .rra | .rotReg _ _ | .rotHL _ | .bitReg _ _ | .bitHL _ | .resReg _ _ | .resHL _
  | .setReg _ _ | .setHL _ => false
  | .jp _ | .jpCond _ _ | .jpHL | .jr _ | .jrCond _ _ => false
  | .nop | .daa | .cpl | .scf | .ccf | .di | .ei | .halt | .stop _ | .illegal _ => false

/-- Whether an instruction may leave PC elsewhere than at PC_next (R25): the control transfers, and an illegal byte, which
gives PC back. -/
def Form.transfers (f : Form) : Bool :=
  match f with
  | .jp _ | .jpCond _ _ | .jpHL | .jr _ | .jrCond _ _ | .call _ | .callCond _ _ | .ret | .retCond _ | .reti | .rst _
  | .illegal _ => true
  | .ldRegReg _ _ | .ldRegHL _ | .ldHLReg _ | .ldRegImm _ _ | .ldHLImm _ | .ldABC | .ldADE | .ldBCA | .ldDEA
  | .ldHLIncA | .ldHLDecA | .ldAHLInc | .ldAHLDec | .ldAddrA _ | .ldAAddr _ | .ldhAddrA _ | .ldhAAddr _ | .ldCA | .ldAC
  | .ldPairImm _ _ | .ldAddrSP _ | .ldSPHL | .push _ | .pop _ => false
  | .aluReg _ _ | .aluHL _ | .aluImm _ _ | .incReg _ | .incHL | .decReg _ | .decHL | .addHL _ | .incPair _ | .decPair _
  | .addSP _ | .ldHLSP _ => false
  | .rlca | .rrca | .rla | .rra | .rotReg _ _ | .rotHL _ | .bitReg _ _ | .bitHL _ | .resReg _ _ | .resHL _
  | .setReg _ _ | .setHL _ => false
  | .nop | .daa | .cpl | .scf | .ccf | .di | .ei | .halt | .stop _ => false

/-- The addresses an instruction's own effect reads, in the order it reads them (R74), in the state it runs in. -/
def Form.loadAddrs (f : Form) (s : State) : List Word :=
  match f with
  | .ldRegHL _ | .ldAHLInc | .ldAHLDec | .aluHL _ | .incHL | .decHL | .rotHL _ | .bitHL _ | .resHL _ | .setHL _ => [s.hl]
  | .ldABC => [s.bc]
  | .ldADE => [s.de]
  | .ldAAddr a16 => [a16]
  | .ldhAAddr a8 => [highPage a8]
  | .ldAC => [highPage s.regs.c]
  | .pop _ | .ret | .reti => [s.sp, s.sp + 1]
  | .retCond cc => if s.flags.holds cc then [s.sp, s.sp + 1] else []
  | .ldRegReg _ _ | .ldHLReg _ | .ldRegImm _ _ | .ldHLImm _ | .ldBCA | .ldDEA | .ldHLIncA | .ldHLDecA | .ldAddrA _
  | .ldhAddrA _ | .ldCA | .ldPairImm _ _ | .ldAddrSP _ | .ldSPHL | .push _ => []
  | .aluReg _ _ | .aluImm _ _ | .incReg _ | .decReg _ | .addHL _ | .incPair _ | .decPair _ | .addSP _ | .ldHLSP _ => []
  | .rlca | .rrca | .rla | .rra | .rotReg _ _ | .bitReg _ _ | .resReg _ _ | .setReg _ _ => []
  | .jp _ | .jpCond _ _ | .jpHL | .jr _ | .jrCond _ _ | .call _ | .callCond _ _ | .rst _ => []
  | .nop | .daa | .cpl | .scf | .ccf | .di | .ei | .halt | .stop _ | .illegal _ => []

/-- What an instruction does to one flag, as the column `flags_ZNHC` of spec/opcode_table.json writes it: `-`, `0`, `1`,
or the flag's letter. -/
inductive FlagEffect where
  | kept | cleared | set1 | computed
  deriving DecidableEq, Repr

/-- The effect on Z, N, H and C. -/
structure FlagEffects where
  z : FlagEffect
  n : FlagEffect
  h : FlagEffect
  c : FlagEffect
  deriving DecidableEq, Repr

/-- No flag is written. -/
def FlagEffects.none : FlagEffects := { z := .kept, n := .kept, h := .kept, c := .kept }

/-- The flags of the ALU operations (R140 to R144). -/
def AluOp.flagEffects (op : AluOp) : FlagEffects :=
  match op with
  | .ADD | .ADC => { z := .computed, n := .cleared, h := .computed, c := .computed }
  | .SUB | .SBC | .CP => { z := .computed, n := .set1, h := .computed, c := .computed }
  | .AND => { z := .computed, n := .cleared, h := .set1, c := .cleared }
  | .XOR | .OR => { z := .computed, n := .cleared, h := .cleared, c := .cleared }

/-- The flags of the extended rotates and shifts (R194 to R209). -/
def RotOp.flagEffects (op : RotOp) : FlagEffects :=
  match op with
  | .SWAP => { z := .computed, n := .cleared, h := .cleared, c := .cleared }
  | .RLC | .RRC | .RL | .RR | .SLA | .SRA | .SRL => { z := .computed, n := .cleared, h := .cleared, c := .computed }

/-- The flags an instruction writes (R23 and the column `flags_ZNHC` of spec/opcode_table.json). -/
def Form.flagEffects (f : Form) : FlagEffects :=
  match f with
  | .aluReg op _ | .aluHL op | .aluImm op _ => op.flagEffects
  | .incReg _ | .incHL => { z := .computed, n := .cleared, h := .computed, c := .kept }
  | .decReg _ | .decHL => { z := .computed, n := .set1, h := .computed, c := .kept }
  | .addHL _ => { z := .kept, n := .cleared, h := .computed, c := .computed }
  | .addSP _ | .ldHLSP _ => { z := .cleared, n := .cleared, h := .computed, c := .computed }
  | .rlca | .rrca | .rla | .rra => { z := .cleared, n := .cleared, h := .cleared, c := .computed }
  | .rotReg op _ | .rotHL op => op.flagEffects
  | .bitReg _ _ | .bitHL _ => { z := .computed, n := .cleared, h := .set1, c := .kept }
  | .pop .AF => { z := .computed, n := .computed, h := .computed, c := .computed }
  | .pop _ => FlagEffects.none
  | .daa => { z := .computed, n := .kept, h := .cleared, c := .computed }
  | .cpl => { z := .kept, n := .set1, h := .set1, c := .kept }
  | .scf => { z := .kept, n := .cleared, h := .cleared, c := .set1 }
  | .ccf => { z := .kept, n := .cleared, h := .cleared, c := .computed }
  | .ldRegReg _ _ | .ldRegHL _ | .ldHLReg _ | .ldRegImm _ _ | .ldHLImm _ | .ldABC | .ldADE | .ldBCA | .ldDEA
  | .ldHLIncA | .ldHLDecA | .ldAHLInc | .ldAHLDec | .ldAddrA _ | .ldAAddr _ | .ldhAddrA _ | .ldhAAddr _ | .ldCA | .ldAC
  | .ldPairImm _ _ | .ldAddrSP _ | .ldSPHL | .push _ => FlagEffects.none
  | .incPair _ | .decPair _ | .resReg _ _ | .resHL _ | .setReg _ _ | .setHL _ => FlagEffects.none
  | .jp _ | .jpCond _ _ | .jpHL | .jr _ | .jrCond _ _ | .call _ | .callCond _ _ | .ret | .retCond _ | .reti
  | .rst _ => FlagEffects.none
  | .nop | .di | .ei | .halt | .stop _ | .illegal _ => FlagEffects.none

/-- A flag before and after agrees with its effect; `computed` says nothing here. -/
def FlagEffect.agrees (e : FlagEffect) (before after : Bool) : Bool :=
  match e with
  | .kept => after == before
  | .cleared => after == false
  | .set1 => after == true
  | .computed => true

/-- All four flags agree with their effects. -/
def FlagEffects.agree (e : FlagEffects) (before after : Flags) : Bool :=
  e.z.agrees before.z after.z && e.n.agrees before.n after.n && e.h.agrees before.h after.h && e.c.agrees before.c after.c

/-- The cycles an instruction costs (R92 to R94, R360), for the flags it runs with; an illegal byte returns none. -/
def Form.cycles (f : Form) (fl : Flags) : Option Nat :=
  match f with
  | .nop | .ldRegReg _ _ | .aluReg _ _ | .incReg _ | .decReg _ | .rlca | .rrca | .rla | .rra | .daa | .cpl | .scf | .ccf
  | .di | .ei | .halt | .stop _ | .jpHL => some 4
  | .ldRegHL _ | .ldHLReg _ | .ldRegImm _ _ | .aluHL _ | .aluImm _ _ | .ldABC | .ldADE | .ldBCA | .ldDEA | .ldHLIncA
  | .ldHLDecA | .ldAHLInc | .ldAHLDec | .ldCA | .ldAC | .addHL _ | .incPair _ | .decPair _ | .ldSPHL => some 8
  | .ldHLImm _ | .incHL | .decHL | .ldPairImm _ _ | .ldhAddrA _ | .ldhAAddr _ | .pop _ | .ldHLSP _ | .jr _ => some 12
  | .ldAddrA _ | .ldAAddr _ | .push _ | .addSP _ | .jp _ | .ret | .reti | .rst _ => some 16
  | .ldAddrSP _ => some 20
  | .call _ => some 24
  | .jrCond cc _ => some (if fl.holds cc then 12 else 8)
  | .jpCond cc _ => some (if fl.holds cc then 16 else 12)
  | .callCond cc _ => some (if fl.holds cc then 24 else 12)
  | .retCond cc => some (if fl.holds cc then 20 else 8)
  | .rotReg _ _ | .resReg _ _ | .setReg _ _ | .bitReg _ _ => some 8
  | .bitHL _ => some 12
  | .rotHL _ | .resHL _ | .setHL _ => some 16
  | .illegal _ => none

end Sys2Proof

namespace Sys2Proof.Machine

/-! ## Reference forms -/

/-- The result of an extended rotate or shift and the bit that goes to C, written as a layout of bits, highest first
(R194 to R209): the seven bits that stay beside the one that enters. -/
def rotatedBits (op : RotOp) (v : Byte) (c : Bool) : Byte × Bool :=
  match op with
  | .RLC => (v.extractLsb' 0 7 ++ v.extractLsb' 7 1, v.getLsbD 7)
  | .RRC => (v.extractLsb' 0 1 ++ v.extractLsb' 1 7, v.getLsbD 0)
  | .RL => (v.extractLsb' 0 7 ++ BitVec.ofBool c, v.getLsbD 7)
  | .RR => (BitVec.ofBool c ++ v.extractLsb' 1 7, v.getLsbD 0)
  | .SLA => (v.extractLsb' 0 7 ++ 0#1, v.getLsbD 7)
  | .SRA => (v.extractLsb' 7 1 ++ v.extractLsb' 1 7, v.getLsbD 0)
  | .SWAP => (v.extractLsb' 0 4 ++ v.extractLsb' 4 4, false)
  | .SRL => (0#1 ++ v.extractLsb' 1 7, v.getLsbD 0)

/-- Two decimal digits as one byte. -/
def bcd (n : Nat) : Byte := BitVec.ofNat 8 (n / 10 * 16 + n % 10)

/-- The state after `FetchByte()` has run `k` times (R89). -/
def State.fetched (s : State) (k : Nat) : State :=
  match k with
  | 0 => s
  | n + 1 => s.afterFetch.fetched n

/-- The three bytes that fetching from PC would give, in order (R89, R90). -/
def State.nextBytes (s : State) : List Byte :=
  [s.readByte s.pc, (s.fetched 1).readByte (s.pc + 1), (s.fetched 2).readByte (s.pc + 1 + 1)]

/-! ## Legal states -/

/-- A legal state of the pixel-timing controller (R32, R317, R318): the counter is below the mode's duration, and
scanlines 143 to 153 are the V-blank lines, 0 to 142 the drawing lines. -/
def Timing.legal (t : Timing) : Bool :=
  decide (t.modeCycles < t.mode.duration) &&
    match t.mode with
    | .vBlank => decide (143 ≤ t.scanline ∧ t.scanline ≤ 153)
    | .oamScan | .vramRead | .hBlank => decide (t.scanline < 143)

/-- A legal state: memory in its canonical form and the controller legal. Every other width is kept by its type (R40). -/
def State.legal (s : State) : Bool := s.mem.wf && s.timing.legal

/-- A state in which the next step runs an instruction: no fault, not stopped, nothing to wake from or to dispatch, and
the environment silent. -/
def State.runs (s : State) : Bool :=
  s.fault == none && !s.stopped && !s.halted && !(s.ime && s.pending != 0x00#8) && s.inputs == []

end Sys2Proof.Machine
end

