-- ==== Sys2Proof/Certificates/Slice0/Obligations.lean ====
section
/-! DEFINITION. The statements for the provers. A statement about a form of instruction speaks of the state `exec` runs
in: PC is already at PC_next (R90). `Instr.ofForm f` is the instruction of the form `f` (EveryInstructionHasOneForm). -/

open Sys2Proof Sys2Proof.Machine

/-- For every instruction of the table, with every value of its operand bytes, and whatever bytes follow, decode of its
encoding is that instruction with the following bytes left. -/
def Obligations.DecodeOfEncodeIsTheInstruction : Prop :=
  ∀ (i : Instr) (rest : List Byte), decode (encode i ++ rest) = .ok (i, rest)

/-- Whenever a byte list decodes to an instruction and a rest, the encoding of the instruction followed by the rest is the
byte list. -/
def Obligations.EncodeOfDecodeIsTheBytes : Prop :=
  ∀ (bytes rest : List Byte) (i : Instr), decode bytes = .ok (i, rest) → encode i ++ rest = bytes

/-- The bytes 0x80, 0x3C, 0xC3 0x50 0x01, 0xCD 0x50 0x01, 0xCB 0x7C, 0x76, 0x10 0xCB and 0xD3 decode to ADD A,B, INC A, JP
0x0150, CALL 0x0150, BIT 7,H, HALT, STOP with the ignored byte 0xCB, and the illegal byte 0xD3. -/
def Obligations.WordsOfTheSpecDecode : Prop :=
  decode [0x80#8] = .ok (.add_A_B, []) ∧
  decode [0x3C#8] = .ok (.inc_A, []) ∧
  decode [0xC3#8, 0x50#8, 0x01#8] = .ok (.jp_a16 0x0150#16, []) ∧
  decode [0xCD#8, 0x50#8, 0x01#8] = .ok (.call_a16 0x0150#16, []) ∧
  decode [0xCB#8, 0x7C#8] = .ok (.bit_7_H, []) ∧
  decode [0x76#8] = .ok (.halt, []) ∧
  decode [0x10#8, 0xCB#8] = .ok (.stop 0xCB#8, []) ∧
  decode [0xD3#8] = .ok (.illegal_D3, [])

/-- Whatever bytes follow, the instruction a first byte begins is not well-formed exactly when the byte is one of the
eleven; so no byte after 0xCB makes an illegal instruction. -/
def Obligations.ExactlyElevenBytesAreIllegal : Prop :=
  ∀ b0 b1 b2 : Byte,
    (decodeBytes b0 b1 b2).wf = false ↔
      b0 ∈ [0xD3#8, 0xDB#8, 0xDD#8, 0xE3#8, 0xE4#8, 0xEB#8, 0xEC#8, 0xED#8, 0xF4#8, 0xFC#8, 0xFD#8]

/-- Two byte lists with the same first byte that both decode have used the same number of bytes, which is 1, 2 or 3, and 2
when the byte is 0xCB or 0x10; a list decodes exactly when it has that many bytes. -/
def Obligations.LengthComesFromTheFirstByte : Prop :=
  ∀ (b0 : Byte) (xs : List Byte),
    (1 ≤ instrLength b0 ∧ instrLength b0 ≤ 3) ∧
    instrLength 0xCB#8 = 2 ∧ instrLength 0x10#8 = 2 ∧
    ((∃ i rest, decode (b0 :: xs) = .ok (i, rest)) ↔ instrLength b0 ≤ xs.length + 1) ∧
    (∀ i rest, decode (b0 :: xs) = .ok (i, rest) → (encode i).length = instrLength b0 ∧ rest = xs.drop (instrLength b0 - 1))

/-- The form of the instruction of a form is that form, and the instruction of the form of an instruction is that
instruction; so a statement about a form speaks of every row of its rule. -/
def Obligations.EveryInstructionHasOneForm : Prop :=
  (∀ f : Form, (Instr.ofForm f).form = f) ∧ (∀ i : Instr, Instr.ofForm i.form = i)

/-- BC, DE and HL read as {hi, lo} of B C, D E and H L; writing a pair sets the high register to v[15:8] and the low one
to v[7:0] and nothing else; a write to one half changes that half of the view. -/
def Obligations.PairViewsShareTheRegisters : Prop :=
  ∀ (s : State) (v : Word) (x : Byte),
    s.pair .BC = wordOf s.regs.b s.regs.c ∧ s.pair .DE = wordOf s.regs.d s.regs.e ∧ s.pair .HL = wordOf s.regs.h s.regs.l ∧
    s.setPair .BC v = { s with regs := { s.regs with b := highByte v, c := lowByte v } } ∧
    s.setPair .DE v = { s with regs := { s.regs with d := highByte v, e := lowByte v } } ∧
    s.setPair .HL v = { s with regs := { s.regs with h := highByte v, l := lowByte v } } ∧
    (s.setPair .BC v).pair .BC = v ∧ (s.setPair .DE v).pair .DE = v ∧ (s.setPair .HL v).pair .HL = v ∧
    highByte ((s.setReg .B x).pair .BC) = x ∧ lowByte ((s.setReg .C x).pair .BC) = x ∧
    highByte ((s.setReg .D x).pair .DE) = x ∧ lowByte ((s.setReg .E x).pair .DE) = x ∧
    highByte ((s.setReg .H x).pair .HL) = x ∧ lowByte ((s.setReg .L x).pair .HL) = x

/-- PackF has ZF, NF, HF, CF at bits 7, 6, 5, 4 and zeros below; UnpackF reads those bits and discards the low nibble;
UnpackF after PackF restores the flags and PackF after UnpackF(b) is b & 0xF0. -/
def Obligations.FlagBytePacking : Prop :=
  ∀ (f : Flags) (b : Byte),
    f.pack.getLsbD 7 = f.z ∧ f.pack.getLsbD 6 = f.n ∧ f.pack.getLsbD 5 = f.h ∧ f.pack.getLsbD 4 = f.c ∧
    f.pack &&& 0x0F#8 = 0x00#8 ∧
    unpackFlags b = { z := b.getLsbD 7, n := b.getLsbD 6, h := b.getLsbD 5, c := b.getLsbD 4 } ∧
    unpackFlags f.pack = f ∧
    (unpackFlags b).pack = b &&& 0xF0#8

/-- ROM bank 0, VRAM, external RAM, working RAM, OAM, I/O, zero-page RAM and IE read their storage byte; ROM bank 1 and
the unused range read 0x00; the echo range reads the working-RAM byte; 0xFF44 reads the scanline and 0xFF00 the host's
draw. A write stores into the same byte, and is ignored in the two ROM banks, the unused range and at 0xFF44. -/
def Obligations.EveryAddressReadsAsItsRegionSays : Prop :=
  ∀ (s : State) (a : Word) (v : Byte),
    (a.toNat < 0x4000 → s.readByte a = s.mem.get a.toNat ∧ s.writeByte a v = s) ∧
    (0x4000 ≤ a.toNat → a.toNat < 0x8000 → s.readByte a = 0x00#8 ∧ s.writeByte a v = s) ∧
    (0x8000 ≤ a.toNat → a.toNat < 0xE000 →
      s.readByte a = s.mem.get a.toNat ∧ s.writeByte a v = { s with mem := s.mem.set a.toNat v }) ∧
    (0xE000 ≤ a.toNat → a.toNat < 0xFE00 →
      s.readByte a = s.mem.get (a.toNat - 0x2000) ∧
        s.writeByte a v = { s with mem := s.mem.set (a.toNat - 0x2000) v }) ∧
    (0xFE00 ≤ a.toNat → a.toNat < 0xFEA0 →
      s.readByte a = s.mem.get a.toNat ∧ s.writeByte a v = { s with mem := s.mem.set a.toNat v }) ∧
    (0xFEA0 ≤ a.toNat → a.toNat < 0xFF00 → s.readByte a = 0x00#8 ∧ s.writeByte a v = s) ∧
    (a.toNat = 0xFF00 →
      s.readByte a = Config.joypadInput s.joypadReads ∧ s.writeByte a v = { s with mem := s.mem.set 0xFF00 v }) ∧
    (a.toNat = 0xFF44 → s.readByte a = BitVec.ofNat 8 s.timing.scanline ∧ s.writeByte a v = s) ∧
    (0xFF00 < a.toNat → a.toNat ≠ 0xFF44 →
      s.readByte a = s.mem.get a.toNat ∧ s.writeByte a v = { s with mem := s.mem.set a.toNat v })

/-- When memory is in its canonical form (an invariant: EveryStepKeepsTheStateLegal), after a write to an address of plain
storage that address and its alias read the byte written, and a write keeps the form; in every state, after any write,
every address that does not reach the same storage byte reads as before. -/
def Obligations.WriteThenReadAndTheRestUnchanged : Prop :=
  ∀ (s : State) (a b : Word) (v : Byte),
    (s.mem.wf = true → plainStorage a = true → sameByte b a = true → (s.writeByte a v).readByte b = v) ∧
    (sameByte b a = false → (s.writeByte a v).readByte b = s.readByte b) ∧
    (s.mem.wf = true → (s.writeByte a v).mem.wf = true)

/-- For every address in 0xC000 to 0xDDFF and every byte, the echo address 0x2000 higher reads the same byte and the two
writes leave the same state; when memory is in its canonical form (an invariant: EveryStepKeepsTheStateLegal) a write
at either address is read back at the other. -/
def Obligations.EchoAliasesWorkingRam : Prop :=
  ∀ (s : State) (a : Word) (v : Byte), 0xC000 ≤ a.toNat → a.toNat ≤ 0xDDFF →
    (s.mem.wf = true → (s.writeByte a v).readByte (a + 0x2000#16) = v) ∧
    (s.mem.wf = true → (s.writeByte (a + 0x2000#16) v).readByte a = v) ∧
    s.writeByte (a + 0x2000#16) v = s.writeByte a v ∧
    s.readByte (a + 0x2000#16) = s.readByte a

/-- MemRead(addr, 2) takes its low byte from addr and its high byte from addr + 1, read in that order; MemWrite(addr, 2,
v) writes the low byte at addr and then the high byte at addr + 1; at 0xFFFF the second address is 0x0000. -/
def Obligations.WordAccessesAreLittleEndian : Prop :=
  ∀ (s : State) (a v : Word),
    s.readWord a = wordOf ((s.afterRead a).readByte (a + 1)) (s.readByte a) ∧
    s.writeWord a v = (s.writeByte a (v.extractLsb' 0 8)).writeByte (a + 1) (v.extractLsb' 8 8) ∧
    lowByte (s.readWord 0xFFFF#16) = s.readByte 0xFFFF#16 ∧ highByte (s.readWord 0xFFFF#16) = s.readByte 0x0000#16 ∧
    s.writeWord 0xFFFF#16 v = s.writeByte 0xFFFF#16 (v.extractLsb' 0 8)

/-- For every pair of registers and every d8: the encodings are 01yyyzzz and 00yyy110 d8; the instruction completes, the
destination register takes the value, nothing else changes, and 4 and 8 cycles are returned (PC is at PC_next when the
meaning runs). -/
def Obligations.LoadRegisterFromRegisterAndImmediate : Prop :=
  ∀ (d r : Reg8) (d8 : Byte) (s : State),
    encode (.ofForm (.ldRegReg d r)) = [0b01#2 ++ d.code ++ r.code] ∧
    exec (.ofForm (.ldRegReg d r)) s = .next { s with regs := s.regs.set d (s.regs.get r), lastCycles := some 4 } ∧
    encode (.ofForm (.ldRegImm d d8)) = [0b00#2 ++ d.code ++ 0b110#3, d8] ∧
    exec (.ofForm (.ldRegImm d d8)) s = .next { s with regs := s.regs.set d d8, lastCycles := some 8 }

/-- LD r,(HL) reads the byte at the old HL into the register (8 cycles); LD (HL),r and LD (HL),d8 write the byte at HL (8
and 12 cycles); nothing else changes but the count of joypad draws that a read of 0xFF00 takes. -/
def Obligations.LoadThroughHL : Prop :=
  ∀ (r : Reg8) (d8 : Byte) (s : State),
    encode (.ofForm (.ldRegHL r)) = [0b01#2 ++ r.code ++ 0b110#3] ∧
    exec (.ofForm (.ldRegHL r)) s =
      .next { s.afterRead s.hl with regs := s.regs.set r (s.readByte s.hl), lastCycles := some 8 } ∧
    encode (.ofForm (.ldHLReg r)) = [0b01110#5 ++ r.code] ∧
    exec (.ofForm (.ldHLReg r)) s = .next { s.writeByte s.hl (s.regs.get r) with lastCycles := some 8 } ∧
    encode (.ofForm (.ldHLImm d8)) = [0x36#8, d8] ∧
    exec (.ofForm (.ldHLImm d8)) s = .next { s.writeByte s.hl d8 with lastCycles := some 12 }

/-- LD A,(BC), LD A,(DE), LD (BC),A, LD (DE),A move A and the byte at the pair's address; LD (HL+),A, LD (HL-),A, LD
A,(HL+), LD A,(HL-) use the old HL and then add or subtract 1 modulo 2^16; each costs 8 cycles and writes no flag. -/
def Obligations.LoadAThroughPairs : Prop :=
  ∀ s : State,
    encode (.ofForm .ldABC) = [0x0A#8] ∧ encode (.ofForm .ldADE) = [0x1A#8] ∧
    encode (.ofForm .ldBCA) = [0x02#8] ∧ encode (.ofForm .ldDEA) = [0x12#8] ∧
    encode (.ofForm .ldHLIncA) = [0x22#8] ∧ encode (.ofForm .ldHLDecA) = [0x32#8] ∧
    encode (.ofForm .ldAHLInc) = [0x2A#8] ∧ encode (.ofForm .ldAHLDec) = [0x3A#8] ∧
    exec (.ofForm .ldABC) s =
      .next { s.afterRead s.bc with regs := { s.regs with a := s.readByte s.bc }, lastCycles := some 8 } ∧
    exec (.ofForm .ldADE) s =
      .next { s.afterRead s.de with regs := { s.regs with a := s.readByte s.de }, lastCycles := some 8 } ∧
    exec (.ofForm .ldBCA) s = .next { s.writeByte s.bc s.regs.a with lastCycles := some 8 } ∧
    exec (.ofForm .ldDEA) s = .next { s.writeByte s.de s.regs.a with lastCycles := some 8 } ∧
    exec (.ofForm .ldHLIncA) s =
      .next { s.writeByte s.hl s.regs.a with
        regs := { s.regs with h := highByte (s.hl + 1), l := lowByte (s.hl + 1) }, lastCycles := some 8 } ∧
    exec (.ofForm .ldHLDecA) s =
      .next { s.writeByte s.hl s.regs.a with
        regs := { s.regs with h := highByte (s.hl - 1), l := lowByte (s.hl - 1) }, lastCycles := some 8 } ∧
    exec (.ofForm .ldAHLInc) s =
      .next { s.afterRead s.hl with
        regs := { s.regs with a := s.readByte s.hl, h := highByte (s.hl + 1), l := lowByte (s.hl + 1) },
        lastCycles := some 8 } ∧
    exec (.ofForm .ldAHLDec) s =
      .next { s.afterRead s.hl with
        regs := { s.regs with a := s.readByte s.hl, h := highByte (s.hl - 1), l := lowByte (s.hl - 1) },
        lastCycles := some 8 }

/-- LD (a16),A and LD A,(a16) cost 16 cycles, LDH (a8),A and LDH A,(a8) 12, LD (C),A and LD A,(C) 8; each moves A and the
byte at its address and writes no flag. -/
def Obligations.LoadAAtAbsoluteAndHighPageAddresses : Prop :=
  ∀ (a16 : Word) (a8 : Byte) (s : State),
    encode (.ofForm (.ldAddrA a16)) = [0xEA#8, lowByte a16, highByte a16] ∧
    encode (.ofForm (.ldAAddr a16)) = [0xFA#8, lowByte a16, highByte a16] ∧
    encode (.ofForm (.ldhAddrA a8)) = [0xE0#8, a8] ∧ encode (.ofForm (.ldhAAddr a8)) = [0xF0#8, a8] ∧
    encode (.ofForm .ldCA) = [0xE2#8] ∧ encode (.ofForm .ldAC) = [0xF2#8] ∧
    exec (.ofForm (.ldAddrA a16)) s = .next { s.writeByte a16 s.regs.a with lastCycles := some 16 } ∧
    exec (.ofForm (.ldAAddr a16)) s =
      .next { s.afterRead a16 with regs := { s.regs with a := s.readByte a16 }, lastCycles := some 16 } ∧
    exec (.ofForm (.ldhAddrA a8)) s =
      .next { s.writeByte (0xFF00#16 + a8.setWidth 16) s.regs.a with lastCycles := some 12 } ∧
    exec (.ofForm (.ldhAAddr a8)) s =
      .next { s.afterRead (0xFF00#16 + a8.setWidth 16) with
        regs := { s.regs with a := s.readByte (0xFF00#16 + a8.setWidth 16) }, lastCycles := some 12 } ∧
    exec (.ofForm .ldCA) s =
      .next { s.writeByte (0xFF00#16 + s.regs.c.setWidth 16) s.regs.a with lastCycles := some 8 } ∧
    exec (.ofForm .ldAC) s =
      .next { s.afterRead (0xFF00#16 + s.regs.c.setWidth 16) with
        regs := { s.regs with a := s.readByte (0xFF00#16 + s.regs.c.setWidth 16) }, lastCycles := some 8 }

/-- LD rr,d16 sets the pair or SP to d16, low byte fetched first (12 cycles); LD (a16),SP writes SP's low byte at a16 and
its high byte at a16 + 1 (20 cycles); LD SP,HL copies HL (8 cycles); no flag changes. -/
def Obligations.SixteenBitLoads : Prop :=
  ∀ (p : Reg16) (d16 a16 : Word) (s : State),
    encode (.ofForm (.ldPairImm p d16)) = [0b00#2 ++ p.code ++ 0b0001#4, lowByte d16, highByte d16] ∧
    exec (.ofForm (.ldPairImm p d16)) s = .next { s.setPair p d16 with lastCycles := some 12 } ∧
    encode (.ofForm (.ldAddrSP a16)) = [0x08#8, lowByte a16, highByte a16] ∧
    exec (.ofForm (.ldAddrSP a16)) s =
      .next { (s.writeByte a16 (lowByte s.sp)).writeByte (a16 + 1) (highByte s.sp) with lastCycles := some 20 } ∧
    encode (.ofForm .ldSPHL) = [0xF9#8] ∧
    exec (.ofForm .ldSPHL) s = .next { s with sp := wordOf s.regs.h s.regs.l, lastCycles := some 8 }

/-- PUSH decrements SP by 2, writes the low byte at SP and the high byte at SP + 1 (16 cycles); POP reads the low byte
from SP and the high byte from SP + 1, sets the pair, and increments SP by 2 (12 cycles). For AF the flag byte is
PackF, and POP AF sets all four flags from bits 7 to 4. -/
def Obligations.PushAndPopInstructions : Prop :=
  ∀ (p : StackPair) (s : State),
    encode (.ofForm (.push p)) = [0b11#2 ++ p.code ++ 0b0101#4] ∧
    exec (.ofForm (.push p)) s =
      .next { (({ s with sp := s.sp - 2 } : State).writeByte (s.sp - 2) (lowByte (s.stackPair p))).writeByte
        (s.sp - 2 + 1) (highByte (s.stackPair p)) with lastCycles := some 16 } ∧
    s.stackPair .BC = wordOf s.regs.b s.regs.c ∧ s.stackPair .DE = wordOf s.regs.d s.regs.e ∧
    s.stackPair .HL = wordOf s.regs.h s.regs.l ∧ s.stackPair .AF = wordOf s.regs.a s.flags.pack ∧
    encode (.ofForm (.pop p)) = [0b11#2 ++ p.code ++ 0b0001#4] ∧
    (let lo := s.readByte s.sp
      let hi := (s.afterRead s.sp).readByte (s.sp + 1)
      let s2 : State := { (s.afterRead s.sp).afterRead (s.sp + 1) with sp := s.sp + 2, lastCycles := some 12 }
      exec (.ofForm (.pop .BC)) s = .next { s2 with regs := { s.regs with b := hi, c := lo } } ∧
      exec (.ofForm (.pop .DE)) s = .next { s2 with regs := { s.regs with d := hi, e := lo } } ∧
      exec (.ofForm (.pop .HL)) s = .next { s2 with regs := { s.regs with h := hi, l := lo } } ∧
      exec (.ofForm (.pop .AF)) s =
        .next { s2 with
          regs := { s.regs with a := hi },
          flags := { z := lo.getLsbD 7, n := lo.getLsbD 6, h := lo.getLsbD 5, c := lo.getLsbD 4 } })

/-- Pop16 reads the low byte from SP, the high byte from SP + 1, then SP is SP + 2. For every stack pair PUSH and then POP
of the pair both complete and give back SP, and when memory is in its canonical form (an invariant:
EveryStepKeepsTheStateLegal) and the two bytes below SP are plain storage they give back every register and flag and
take no joypad draw. -/
def Obligations.PushThenPopRestores : Prop :=
  ∀ (p : StackPair) (s : State),
    s.popValue = wordOf ((s.afterRead s.sp).readByte (s.sp + 1)) (s.readByte s.sp) ∧
    s.afterPop = { (s.afterRead s.sp).afterRead (s.sp + 1) with sp := s.sp + 2 } ∧
    ∃ t u, exec (.ofForm (.push p)) s = .next t ∧ exec (.ofForm (.pop p)) t = .next u ∧ u.sp = s.sp ∧
      (s.mem.wf = true → plainStorage (s.sp - 2) = true → plainStorage (s.sp - 1) = true →
        u.regs = s.regs ∧ u.flags = s.flags ∧ u.joypadReads = s.joypadReads)

/-- For all a, v and carry in: Add8's result is (a + v + cin) mod 256, Z says it is zero, N = 0, H is the carry out of the
low nibbles with cin, C the carry out of the whole sum; Sub8's result is (a - v - cin) mod 256, N = 1, H and C are the
borrows of the low nibble and of the byte. -/
def Obligations.AddAndSubHelpersFollowTheExactSum : Prop :=
  ∀ (a v : Byte) (cin : Bool),
    (add8 a v cin).1.toNat = (a.toNat + v.toNat + cin.toNat) % 256 ∧
    ((add8 a v cin).2.z = true ↔ (a.toNat + v.toNat + cin.toNat) % 256 = 0) ∧
    (add8 a v cin).2.n = false ∧
    ((add8 a v cin).2.h = true ↔ a.toNat % 16 + v.toNat % 16 + cin.toNat > 15) ∧
    ((add8 a v cin).2.c = true ↔ a.toNat + v.toNat + cin.toNat > 255) ∧
    ((sub8 a v cin).1.toNat : Int) = ((a.toNat : Int) - v.toNat - cin.toNat) % 256 ∧
    ((sub8 a v cin).2.z = true ↔ ((a.toNat : Int) - v.toNat - cin.toNat) % 256 = 0) ∧
    (sub8 a v cin).2.n = true ∧
    ((sub8 a v cin).2.h = true ↔ a.toNat % 16 < v.toNat % 16 + cin.toNat) ∧
    ((sub8 a v cin).2.c = true ↔ a.toNat < v.toNat + cin.toNat)

/-- And8, Xor8, Or8 set Z from the result, N = 0, C = 0 and H = 1, 0, 0; Inc8 and Dec8 give v + 1 and v - 1 mod 256, Z
from the result, N = 0 and 1, H when the low nibble was 0xF and 0x0, and keep C; Inc8 and Dec8 undo each other. -/
def Obligations.LogicAndStepHelpers : Prop :=
  ∀ (a v : Byte) (f : Flags),
    (and8 a v).1 = a &&& v ∧ (and8 a v).2 = { z := decide (a &&& v = 0#8), n := false, h := true, c := false } ∧
    (xor8 a v).1 = a ^^^ v ∧ (xor8 a v).2 = { z := decide (a = v), n := false, h := false, c := false } ∧
    (or8 a v).1 = a ||| v ∧ (or8 a v).2 = { z := decide (a = 0#8 ∧ v = 0#8), n := false, h := false, c := false } ∧
    (inc8 v f).1.toNat = (v.toNat + 1) % 256 ∧
    (inc8 v f).2 = { z := decide (v.toNat = 255), n := false, h := decide (v.toNat % 16 = 15), c := f.c } ∧
    (dec8 v f).1.toNat = (v.toNat + 255) % 256 ∧
    (dec8 v f).2 = { z := decide (v.toNat = 1), n := true, h := decide (v.toNat % 16 = 0), c := f.c } ∧
    (dec8 (inc8 v f).1 f).1 = v ∧ (inc8 (dec8 v f).1 f).1 = v

/-- A takes Add8(A, operand, 0) or Add8(A, operand, CF) and the flags are Add8's; 4 cycles for a register, 8 for (HL) and
d8; nothing else changes. AddAndSubHelpersFollowTheExactSum says what Add8 is. -/
def Obligations.AddInstructions : Prop :=
  ∀ (r : Reg8) (d8 : Byte) (s : State),
    encode (.ofForm (.aluReg .ADD r)) = [0b10000#5 ++ r.code] ∧
    exec (.ofForm (.aluReg .ADD r)) s =
      .next { s with regs := { s.regs with a := (add8 s.regs.a (s.regs.get r) false).1 }, flags := (add8 s.regs.a (s.regs.get r) false).2, lastCycles := some 4 } ∧
    encode (.ofForm (.aluHL .ADD)) = [0b10000110#8] ∧
    exec (.ofForm (.aluHL .ADD)) s =
      .next { s.afterRead s.hl with
        regs := { s.regs with a := (add8 s.regs.a (s.readByte s.hl) false).1 }, flags := (add8 s.regs.a (s.readByte s.hl) false).2, lastCycles := some 8 } ∧
    encode (.ofForm (.aluImm .ADD d8)) = [0b11000110#8, d8] ∧
    exec (.ofForm (.aluImm .ADD d8)) s =
      .next { s with regs := { s.regs with a := (add8 s.regs.a d8 false).1 }, flags := (add8 s.regs.a d8 false).2, lastCycles := some 8 } ∧
    encode (.ofForm (.aluReg .ADC r)) = [0b10001#5 ++ r.code] ∧
    exec (.ofForm (.aluReg .ADC r)) s =
      .next { s with regs := { s.regs with a := (add8 s.regs.a (s.regs.get r) s.flags.c).1 }, flags := (add8 s.regs.a (s.regs.get r) s.flags.c).2, lastCycles := some 4 } ∧
    encode (.ofForm (.aluHL .ADC)) = [0b10001110#8] ∧
    exec (.ofForm (.aluHL .ADC)) s =
      .next { s.afterRead s.hl with
        regs := { s.regs with a := (add8 s.regs.a (s.readByte s.hl) s.flags.c).1 }, flags := (add8 s.regs.a (s.readByte s.hl) s.flags.c).2, lastCycles := some 8 } ∧
    encode (.ofForm (.aluImm .ADC d8)) = [0b11001110#8, d8] ∧
    exec (.ofForm (.aluImm .ADC d8)) s =
      .next { s with regs := { s.regs with a := (add8 s.regs.a d8 s.flags.c).1 }, flags := (add8 s.regs.a d8 s.flags.c).2, lastCycles := some 8 }

/-- A takes Sub8(A, operand, 0) or Sub8(A, operand, CF) and the flags are Sub8's; 4 cycles for a register, 8 for (HL) and
d8; nothing else changes. -/
def Obligations.SubInstructions : Prop :=
  ∀ (r : Reg8) (d8 : Byte) (s : State),
    encode (.ofForm (.aluReg .SUB r)) = [0b10010#5 ++ r.code] ∧
    exec (.ofForm (.aluReg .SUB r)) s =
      .next { s with regs := { s.regs with a := (sub8 s.regs.a (s.regs.get r) false).1 }, flags := (sub8 s.regs.a (s.regs.get r) false).2, lastCycles := some 4 } ∧
    encode (.ofForm (.aluHL .SUB)) = [0b10010110#8] ∧
    exec (.ofForm (.aluHL .SUB)) s =
      .next { s.afterRead s.hl with
        regs := { s.regs with a := (sub8 s.regs.a (s.readByte s.hl) false).1 }, flags := (sub8 s.regs.a (s.readByte s.hl) false).2, lastCycles := some 8 } ∧
    encode (.ofForm (.aluImm .SUB d8)) = [0b11010110#8, d8] ∧
    exec (.ofForm (.aluImm .SUB d8)) s =
      .next { s with regs := { s.regs with a := (sub8 s.regs.a d8 false).1 }, flags := (sub8 s.regs.a d8 false).2, lastCycles := some 8 } ∧
    encode (.ofForm (.aluReg .SBC r)) = [0b10011#5 ++ r.code] ∧
    exec (.ofForm (.aluReg .SBC r)) s =
      .next { s with regs := { s.regs with a := (sub8 s.regs.a (s.regs.get r) s.flags.c).1 }, flags := (sub8 s.regs.a (s.regs.get r) s.flags.c).2, lastCycles := some 4 } ∧
    encode (.ofForm (.aluHL .SBC)) = [0b10011110#8] ∧
    exec (.ofForm (.aluHL .SBC)) s =
      .next { s.afterRead s.hl with
        regs := { s.regs with a := (sub8 s.regs.a (s.readByte s.hl) s.flags.c).1 }, flags := (sub8 s.regs.a (s.readByte s.hl) s.flags.c).2, lastCycles := some 8 } ∧
    encode (.ofForm (.aluImm .SBC d8)) = [0b11011110#8, d8] ∧
    exec (.ofForm (.aluImm .SBC d8)) s =
      .next { s with regs := { s.regs with a := (sub8 s.regs.a d8 s.flags.c).1 }, flags := (sub8 s.regs.a d8 s.flags.c).2, lastCycles := some 8 }

/-- A takes the bitwise result and the flags are And8's, Xor8's or Or8's; 4 cycles for a register, 8 for (HL) and d8;
nothing else changes. -/
def Obligations.LogicInstructions : Prop :=
  ∀ (r : Reg8) (d8 : Byte) (s : State),
    encode (.ofForm (.aluReg .AND r)) = [0b10100#5 ++ r.code] ∧
    exec (.ofForm (.aluReg .AND r)) s =
      .next { s with regs := { s.regs with a := (and8 s.regs.a (s.regs.get r)).1 }, flags := (and8 s.regs.a (s.regs.get r)).2, lastCycles := some 4 } ∧
    encode (.ofForm (.aluHL .AND)) = [0b10100110#8] ∧
    exec (.ofForm (.aluHL .AND)) s =
      .next { s.afterRead s.hl with
        regs := { s.regs with a := (and8 s.regs.a (s.readByte s.hl)).1 }, flags := (and8 s.regs.a (s.readByte s.hl)).2, lastCycles := some 8 } ∧
    encode (.ofForm (.aluImm .AND d8)) = [0b11100110#8, d8] ∧
    exec (.ofForm (.aluImm .AND d8)) s =
      .next { s with regs := { s.regs with a := (and8 s.regs.a d8).1 }, flags := (and8 s.regs.a d8).2, lastCycles := some 8 } ∧
    encode (.ofForm (.aluReg .XOR r)) = [0b10101#5 ++ r.code] ∧
    exec (.ofForm (.aluReg .XOR r)) s =
      .next { s with regs := { s.regs with a := (xor8 s.regs.a (s.regs.get r)).1 }, flags := (xor8 s.regs.a (s.regs.get r)).2, lastCycles := some 4 } ∧
    encode (.ofForm (.aluHL .XOR)) = [0b10101110#8] ∧
    exec (.ofForm (.aluHL .XOR)) s =
      .next { s.afterRead s.hl with
        regs := { s.regs with a := (xor8 s.regs.a (s.readByte s.hl)).1 }, flags := (xor8 s.regs.a (s.readByte s.hl)).2, lastCycles := some 8 } ∧
    encode (.ofForm (.aluImm .XOR d8)) = [0b11101110#8, d8] ∧
    exec (.ofForm (.aluImm .XOR d8)) s =
      .next { s with regs := { s.regs with a := (xor8 s.regs.a d8).1 }, flags := (xor8 s.regs.a d8).2, lastCycles := some 8 } ∧
    encode (.ofForm (.aluReg .OR r)) = [0b10110#5 ++ r.code] ∧
    exec (.ofForm (.aluReg .OR r)) s =
      .next { s with regs := { s.regs with a := (or8 s.regs.a (s.regs.get r)).1 }, flags := (or8 s.regs.a (s.regs.get r)).2, lastCycles := some 4 } ∧
    encode (.ofForm (.aluHL .OR)) = [0b10110110#8] ∧
    exec (.ofForm (.aluHL .OR)) s =
      .next { s.afterRead s.hl with
        regs := { s.regs with a := (or8 s.regs.a (s.readByte s.hl)).1 }, flags := (or8 s.regs.a (s.readByte s.hl)).2, lastCycles := some 8 } ∧
    encode (.ofForm (.aluImm .OR d8)) = [0b11110110#8, d8] ∧
    exec (.ofForm (.aluImm .OR d8)) s =
      .next { s with regs := { s.regs with a := (or8 s.regs.a d8).1 }, flags := (or8 s.regs.a d8).2, lastCycles := some 8 }

/-- The flags are Sub8(A, operand, 0)'s and A is kept; 4 cycles for a register, 8 for (HL) and d8; nothing else changes. -/
def Obligations.CompareInstructions : Prop :=
  ∀ (r : Reg8) (d8 : Byte) (s : State),
    encode (.ofForm (.aluReg .CP r)) = [0b10111#5 ++ r.code] ∧
    exec (.ofForm (.aluReg .CP r)) s =
      .next { s with flags := (sub8 s.regs.a (s.regs.get r) false).2, lastCycles := some 4 } ∧
    encode (.ofForm (.aluHL .CP)) = [0xBE#8] ∧
    exec (.ofForm (.aluHL .CP)) s =
      .next { s.afterRead s.hl with
        flags := (sub8 s.regs.a (s.readByte s.hl) false).2, lastCycles := some 8 } ∧
    encode (.ofForm (.aluImm .CP d8)) = [0xFE#8, d8] ∧
    exec (.ofForm (.aluImm .CP d8)) s = .next { s with flags := (sub8 s.regs.a d8 false).2, lastCycles := some 8 }

/-- The register takes Inc8 or Dec8 of itself (4 cycles); the byte at HL is read once and its Inc8 or Dec8 written once at
the same address, with the flags from the value read even where the write is ignored (12 cycles); C is kept. -/
def Obligations.IncrementAndDecrementInstructions : Prop :=
  ∀ (r : Reg8) (s : State),
    encode (.ofForm (.incReg r)) = [0b00#2 ++ r.code ++ 0b100#3] ∧
    exec (.ofForm (.incReg r)) s =
      .next { s with
        regs := s.regs.set r (inc8 (s.regs.get r) s.flags).1, flags := (inc8 (s.regs.get r) s.flags).2,
        lastCycles := some 4 } ∧
    encode (.ofForm (.decReg r)) = [0b00#2 ++ r.code ++ 0b101#3] ∧
    exec (.ofForm (.decReg r)) s =
      .next { s with
        regs := s.regs.set r (dec8 (s.regs.get r) s.flags).1, flags := (dec8 (s.regs.get r) s.flags).2,
        lastCycles := some 4 } ∧
    encode (.ofForm .incHL) = [0x34#8] ∧
    exec (.ofForm .incHL) s =
      .next { (s.afterRead s.hl).writeByte s.hl (inc8 (s.readByte s.hl) s.flags).1 with
        flags := (inc8 (s.readByte s.hl) s.flags).2, lastCycles := some 12 } ∧
    encode (.ofForm .decHL) = [0x35#8] ∧
    exec (.ofForm .decHL) s =
      .next { (s.afterRead s.hl).writeByte s.hl (dec8 (s.readByte s.hl) s.flags).1 with
        flags := (dec8 (s.readByte s.hl) s.flags).2, lastCycles := some 12 }

/-- Add16's result is (a + b) mod 2^16, Z is kept, N = 0, H is the carry out of bit 11, C the carry out of bit 15;
AddSPe8's result is SP plus the signed displacement mod 2^16, Z = N = 0, and H and C are the carries of the unsigned
add of e to SP's low byte. -/
def Obligations.SixteenBitArithmeticHelpers : Prop :=
  ∀ (a b sp : Word) (e : Byte) (f : Flags),
    (add16 a b f).1.toNat = (a.toNat + b.toNat) % 65536 ∧
    (add16 a b f).2.z = f.z ∧ (add16 a b f).2.n = false ∧
    ((add16 a b f).2.h = true ↔ a.toNat % 4096 + b.toNat % 4096 > 4095) ∧
    ((add16 a b f).2.c = true ↔ a.toNat + b.toNat > 65535) ∧
    ((addSPe8 sp e).1.toNat : Int) = ((sp.toNat : Int) + e.toInt) % 65536 ∧
    (addSPe8 sp e).2.z = false ∧ (addSPe8 sp e).2.n = false ∧
    ((addSPe8 sp e).2.h = true ↔ sp.toNat % 16 + e.toNat % 16 > 15) ∧
    ((addSPe8 sp e).2.c = true ↔ sp.toNat % 256 + e.toNat > 255)

/-- ADD HL,rr sets HL to Add16(HL, rr) with its flags (8 cycles); INC rr and DEC rr add and subtract 1 modulo 2^16 and
write no flag (8 cycles); ADD SP,e8 sets SP to AddSPe8 (16 cycles) and LD HL,SP+e8 sets HL to it and keeps SP (12
cycles), both with AddSPe8's flags. -/
def Obligations.SixteenBitArithmeticInstructions : Prop :=
  ∀ (p : Reg16) (e8 : Byte) (s : State),
    encode (.ofForm (.addHL p)) = [0b00#2 ++ p.code ++ 0b1001#4] ∧
    exec (.ofForm (.addHL p)) s =
      .next { s.setPair .HL (add16 s.hl (s.pair p) s.flags).1 with
        flags := (add16 s.hl (s.pair p) s.flags).2, lastCycles := some 8 } ∧
    encode (.ofForm (.incPair p)) = [0b00#2 ++ p.code ++ 0b0011#4] ∧
    exec (.ofForm (.incPair p)) s = .next { s.setPair p (s.pair p + 1) with lastCycles := some 8 } ∧
    encode (.ofForm (.decPair p)) = [0b00#2 ++ p.code ++ 0b1011#4] ∧
    exec (.ofForm (.decPair p)) s = .next { s.setPair p (s.pair p - 1) with lastCycles := some 8 } ∧
    encode (.ofForm (.addSP e8)) = [0xE8#8, e8] ∧
    exec (.ofForm (.addSP e8)) s =
      .next { s with sp := (addSPe8 s.sp e8).1, flags := (addSPe8 s.sp e8).2, lastCycles := some 16 } ∧
    encode (.ofForm (.ldHLSP e8)) = [0xF8#8, e8] ∧
    exec (.ofForm (.ldHLSP e8)) s =
      .next { s.setPair .HL (addSPe8 s.sp e8).1 with flags := (addSPe8 s.sp e8).2, lastCycles := some 12 }

/-- A is rotated by one place, circularly or through CF; Z, N and H are cleared and C is the evicted bit; 4 cycles;
nothing else changes. -/
def Obligations.AccumulatorRotates : Prop :=
  ∀ s : State,
    let v := s.regs.a
    let c := s.flags.c
    encode (.ofForm .rlca) = [0x07#8] ∧
    exec (.ofForm .rlca) s =
      .next { s with
        regs := { s.regs with a := v.extractLsb' 0 7 ++ v.extractLsb' 7 1 },
        flags := { z := false, n := false, h := false, c := v.getLsbD 7 }, lastCycles := some 4 } ∧
    encode (.ofForm .rrca) = [0x0F#8] ∧
    exec (.ofForm .rrca) s =
      .next { s with
        regs := { s.regs with a := v.extractLsb' 0 1 ++ v.extractLsb' 1 7 },
        flags := { z := false, n := false, h := false, c := v.getLsbD 0 }, lastCycles := some 4 } ∧
    encode (.ofForm .rla) = [0x17#8] ∧
    exec (.ofForm .rla) s =
      .next { s with
        regs := { s.regs with a := v.extractLsb' 0 7 ++ BitVec.ofBool c },
        flags := { z := false, n := false, h := false, c := v.getLsbD 7 }, lastCycles := some 4 } ∧
    encode (.ofForm .rra) = [0x1F#8] ∧
    exec (.ofForm .rra) s =
      .next { s with
        regs := { s.regs with a := BitVec.ofBool c ++ v.extractLsb' 1 7 },
        flags := { z := false, n := false, h := false, c := v.getLsbD 0 }, lastCycles := some 4 }

/-- The operand is rotated by one place, circularly or through CF (the bit layout of rotatedBits); Z from the result, N =
H = 0, C the evicted bit; 8 cycles on a register; on (HL) one read and one write at the same address, flags from the
value read, 16 cycles. -/
def Obligations.ExtendedRotates : Prop :=
  ∀ (op : RotOp) (r : Reg8) (s : State), op ∈ [.RLC, .RRC, .RL, .RR] →
    encode (.ofForm (.rotReg op r)) = [0xCB#8, 0b00#2 ++ op.code ++ r.code] ∧
    exec (.ofForm (.rotReg op r)) s =
      .next { s with
        regs := s.regs.set r (rotatedBits op (s.regs.get r) s.flags.c).1,
        flags :=
          { z := decide ((rotatedBits op (s.regs.get r) s.flags.c).1 = 0#8), n := false, h := false,
            c := (rotatedBits op (s.regs.get r) s.flags.c).2 },
        lastCycles := some 8 } ∧
    encode (.ofForm (.rotHL op)) = [0xCB#8, 0b00#2 ++ op.code ++ 0b110#3] ∧
    exec (.ofForm (.rotHL op)) s =
      .next { (s.afterRead s.hl).writeByte s.hl (rotatedBits op (s.readByte s.hl) s.flags.c).1 with
        flags :=
          { z := decide ((rotatedBits op (s.readByte s.hl) s.flags.c).1 = 0#8), n := false, h := false,
            c := (rotatedBits op (s.readByte s.hl) s.flags.c).2 },
        lastCycles := some 16 }

/-- The operand is shifted by one place, bit 7 kept by SRA, or its nibbles are exchanged (the bit layout of rotatedBits);
Z from the result, N = H = 0, C the evicted bit, 0 for SWAP; 8 cycles on a register; on (HL) one read and one write at
the same address, 16 cycles. -/
def Obligations.ExtendedShiftsAndSwap : Prop :=
  ∀ (op : RotOp) (r : Reg8) (s : State), op ∈ [.SLA, .SRA, .SWAP, .SRL] →
    encode (.ofForm (.rotReg op r)) = [0xCB#8, 0b00#2 ++ op.code ++ r.code] ∧
    exec (.ofForm (.rotReg op r)) s =
      .next { s with
        regs := s.regs.set r (rotatedBits op (s.regs.get r) s.flags.c).1,
        flags :=
          { z := decide ((rotatedBits op (s.regs.get r) s.flags.c).1 = 0#8), n := false, h := false,
            c := (rotatedBits op (s.regs.get r) s.flags.c).2 },
        lastCycles := some 8 } ∧
    encode (.ofForm (.rotHL op)) = [0xCB#8, 0b00#2 ++ op.code ++ 0b110#3] ∧
    exec (.ofForm (.rotHL op)) s =
      .next { (s.afterRead s.hl).writeByte s.hl (rotatedBits op (s.readByte s.hl) s.flags.c).1 with
        flags :=
          { z := decide ((rotatedBits op (s.readByte s.hl) s.flags.c).1 = 0#8), n := false, h := false,
            c := (rotatedBits op (s.readByte s.hl) s.flags.c).2 },
        lastCycles := some 16 }

/-- BIT sets Z from the tested bit inverted, N = 0, H = 1, keeps C and writes no operand (8 cycles, 12 on (HL)); RES and
SET change bit b of the operand and no other bit and no flag (8 cycles, 16 on (HL), one read and one write at the same
address). -/
def Obligations.BitTestResetAndSet : Prop :=
  ∀ (b : Idx3) (r : Reg8) (s : State),
    (∀ (v : Byte) (k : Nat), (resetBit b v).getLsbD k = (v.getLsbD k && k != b.toNat)) ∧
    (∀ (v : Byte) (k : Nat), (setBit b v).getLsbD k = (v.getLsbD k || k == b.toNat)) ∧
    encode (.ofForm (.bitReg b r)) = [0xCB#8, 0b01#2 ++ b.code ++ r.code] ∧
    exec (.ofForm (.bitReg b r)) s =
      .next { s with
        flags := { z := !(s.regs.get r).getLsbD b.toNat, n := false, h := true, c := s.flags.c }, lastCycles := some 8 } ∧
    encode (.ofForm (.bitHL b)) = [0xCB#8, 0b01#2 ++ b.code ++ 0b110#3] ∧
    exec (.ofForm (.bitHL b)) s =
      .next { s.afterRead s.hl with
        flags := { z := !(s.readByte s.hl).getLsbD b.toNat, n := false, h := true, c := s.flags.c },
        lastCycles := some 12 } ∧
    encode (.ofForm (.resReg b r)) = [0xCB#8, 0b10#2 ++ b.code ++ r.code] ∧
    exec (.ofForm (.resReg b r)) s =
      .next { s with regs := s.regs.set r (resetBit b (s.regs.get r)), lastCycles := some 8 } ∧
    encode (.ofForm (.resHL b)) = [0xCB#8, 0b10#2 ++ b.code ++ 0b110#3] ∧
    exec (.ofForm (.resHL b)) s =
      .next { (s.afterRead s.hl).writeByte s.hl (resetBit b (s.readByte s.hl)) with lastCycles := some 16 } ∧
    encode (.ofForm (.setReg b r)) = [0xCB#8, 0b11#2 ++ b.code ++ r.code] ∧
    exec (.ofForm (.setReg b r)) s =
      .next { s with regs := s.regs.set r (setBit b (s.regs.get r)), lastCycles := some 8 } ∧
    encode (.ofForm (.setHL b)) = [0xCB#8, 0b11#2 ++ b.code ++ 0b110#3] ∧
    exec (.ofForm (.setHL b)) s =
      .next { (s.afterRead s.hl).writeByte s.hl (setBit b (s.readByte s.hl)) with lastCycles := some 16 }

/-- NZ, Z, NC, C hold when ZF = 0, ZF = 1, CF = 0, CF = 1. JP sets PC to a16 (16 cycles), JP HL to HL (4), JR adds the
signed displacement to PC_next (12). The conditional forms do so when the condition holds and leave PC at PC_next
otherwise (JP cc 16 and 12 cycles, JR cc 12 and 8). Nothing else changes. -/
def Obligations.JumpInstructions : Prop :=
  ∀ (cc : Cond) (a16 : Word) (e8 : Byte) (s : State),
    (s.flags.holds .NZ = true ↔ s.flags.z = false) ∧ (s.flags.holds .Z = true ↔ s.flags.z = true) ∧
    (s.flags.holds .NC = true ↔ s.flags.c = false) ∧ (s.flags.holds .C = true ↔ s.flags.c = true) ∧
    encode (.ofForm (.jp a16)) = [0xC3#8, lowByte a16, highByte a16] ∧
    exec (.ofForm (.jp a16)) s = .next { s with pc := a16, lastCycles := some 16 } ∧
    encode (.ofForm (.jpCond cc a16)) = [0b110#3 ++ cc.code ++ 0b010#3, lowByte a16, highByte a16] ∧
    exec (.ofForm (.jpCond cc a16)) s =
      (if s.flags.holds cc then .next { s with pc := a16, lastCycles := some 16 }
       else .next { s with lastCycles := some 12 }) ∧
    encode (.ofForm .jpHL) = [0xE9#8] ∧
    exec (.ofForm .jpHL) s = .next { s with pc := wordOf s.regs.h s.regs.l, lastCycles := some 4 } ∧
    encode (.ofForm (.jr e8)) = [0x18#8, e8] ∧
    exec (.ofForm (.jr e8)) s = .next { s with pc := s.pc + e8.signExtend 16, lastCycles := some 12 } ∧
    encode (.ofForm (.jrCond cc e8)) = [0b001#3 ++ cc.code ++ 0b000#3, e8] ∧
    exec (.ofForm (.jrCond cc e8)) s =
      (if s.flags.holds cc then .next { s with pc := s.pc + e8.signExtend 16, lastCycles := some 12 }
       else .next { s with lastCycles := some 8 })

/-- CALL and RST push PC_next (SP - 2, low byte at SP, high byte at SP + 1) and set PC to a16 or y * 8 (24 and 16 cycles);
RET pops PC (16), RETI also sets IME to 1 at once (16). CALL cc and RET cc do so when the condition holds (24 and 20
cycles) and otherwise touch neither stack nor SP (12 and 8). -/
def Obligations.CallReturnAndRestart : Prop :=
  ∀ (cc : Cond) (a16 : Word) (y : Idx3) (s : State),
    let pushed : State :=
      (({ s with sp := s.sp - 2 } : State).writeByte (s.sp - 2) (lowByte s.pc)).writeByte (s.sp - 2 + 1) (highByte s.pc)
    let popped : State :=
      { (s.afterRead s.sp).afterRead (s.sp + 1) with
        sp := s.sp + 2, pc := wordOf ((s.afterRead s.sp).readByte (s.sp + 1)) (s.readByte s.sp) }
    encode (.ofForm (.call a16)) = [0xCD#8, lowByte a16, highByte a16] ∧
    exec (.ofForm (.call a16)) s = .next { pushed with pc := a16, lastCycles := some 24 } ∧
    encode (.ofForm (.callCond cc a16)) = [0b110#3 ++ cc.code ++ 0b100#3, lowByte a16, highByte a16] ∧
    exec (.ofForm (.callCond cc a16)) s =
      (if s.flags.holds cc then .next { pushed with pc := a16, lastCycles := some 24 }
       else .next { s with lastCycles := some 12 }) ∧
    encode (.ofForm .ret) = [0xC9#8] ∧
    exec (.ofForm .ret) s = .next { popped with lastCycles := some 16 } ∧
    encode (.ofForm (.retCond cc)) = [0b110#3 ++ cc.code ++ 0b000#3] ∧
    exec (.ofForm (.retCond cc)) s =
      (if s.flags.holds cc then .next { popped with lastCycles := some 20 }
       else .next { s with lastCycles := some 8 }) ∧
    encode (.ofForm .reti) = [0xD9#8] ∧
    exec (.ofForm .reti) s = .next { popped with ime := true, lastCycles := some 16 } ∧
    encode (.ofForm (.rst y)) = [0b11#2 ++ y.code ++ 0b111#3] ∧
    exec (.ofForm (.rst y)) s = .next { pushed with pc := BitVec.ofNat 16 (y.toNat * 8), lastCycles := some 16 }

/-- NOP changes nothing; CPL complements A and sets N and H; SCF sets C, CCF complements it, both clear N and H; Z is
kept; 4 cycles each. -/
def Obligations.NopAndFlagInstructions : Prop :=
  ∀ s : State,
    encode (.ofForm .nop) = [0x00#8] ∧ encode (.ofForm .cpl) = [0x2F#8] ∧ encode (.ofForm .scf) = [0x37#8] ∧
    encode (.ofForm .ccf) = [0x3F#8] ∧
    exec (.ofForm .nop) s = .next { s with lastCycles := some 4 } ∧
    exec (.ofForm .cpl) s =
      .next { s with
        regs := { s.regs with a := ~~~s.regs.a },
        flags := { z := s.flags.z, n := true, h := true, c := s.flags.c }, lastCycles := some 4 } ∧
    exec (.ofForm .scf) s =
      .next { s with flags := { z := s.flags.z, n := false, h := false, c := true }, lastCycles := some 4 } ∧
    exec (.ofForm .ccf) s =
      .next { s with flags := { z := s.flags.z, n := false, h := false, c := !s.flags.c }, lastCycles := some 4 }

/-- After an addition, 0x60 is added when CF = 1 or A > 0x99 and 0x06 when HF = 1 or the low nibble is above 9; after a
subtraction, 0x60 is taken off when CF = 1 and 0x06 when HF = 1; the result is taken mod 256; Z from the result, N
kept, H = 0, C set by the 0x60 correction and never cleared; 4 cycles; nothing else changes. -/
def Obligations.DecimalAdjust : Prop :=
  ∀ (s : State) (high low : Bool) (r : Byte),
    (high = true ↔ s.flags.c = true ∨ (s.flags.n = false ∧ s.regs.a.toNat > 0x99)) →
    (low = true ↔ s.flags.h = true ∨ (s.flags.n = false ∧ s.regs.a.toNat % 16 > 9)) →
    ((s.flags.n = false →
        r.toNat = (s.regs.a.toNat + (if high then 0x60 else 0) + (if low then 0x06 else 0)) % 256) ∧
      (s.flags.n = true →
        (r.toNat : Int) = ((s.regs.a.toNat : Int) - (if high then 0x60 else 0) - (if low then 0x06 else 0)) % 256)) →
    encode (.ofForm .daa) = [0x27#8] ∧
    exec (.ofForm .daa) s =
      .next { s with
        regs := { s.regs with a := r },
        flags := { z := decide (r = 0#8), n := s.flags.n, h := false, c := high }, lastCycles := some 4 }

/-- For two numbers below 100 held as two decimal digits and a carry in, Add8 and then DAA give the digits of the sum mod
100 with C the decimal carry, and Sub8 and then DAA give the digits of the difference mod 100 with C the decimal
borrow. So for every state with A the digits of x and every operand form (a register, the byte at HL, d8) whose
operand is the digits of y: after ADD, ADC, SUB or SBC, DAA completes and leaves in A the digits of x + y, x + y + C,
x - y or x - y - C mod 100, and in C the decimal carry or borrow, C the flag before the first of the two. -/
def Obligations.DecimalAdjustMakesDecimalSums : Prop :=
  (∀ (x y : Nat) (cin : Bool), x < 100 → y < 100 →
    (daa8 (add8 (bcd x) (bcd y) cin).1 (add8 (bcd x) (bcd y) cin).2).1 = bcd ((x + y + cin.toNat) % 100) ∧
    ((daa8 (add8 (bcd x) (bcd y) cin).1 (add8 (bcd x) (bcd y) cin).2).2.c = true ↔ x + y + cin.toNat ≥ 100) ∧
    (daa8 (sub8 (bcd x) (bcd y) cin).1 (sub8 (bcd x) (bcd y) cin).2).1 = bcd ((x + 100 - y + 100 - cin.toNat) % 100) ∧
    ((daa8 (sub8 (bcd x) (bcd y) cin).1 (sub8 (bcd x) (bcd y) cin).2).2.c = true ↔ x < y + cin.toNat)) ∧
  (∀ (s : State) (x y : Nat) (op : AluOp) (f : Form), x < 100 → y < 100 → s.regs.a = bcd x →
    f = .aluImm op (bcd y) ∨ (∃ r, f = .aluReg op r ∧ s.regs.get r = bcd y) ∨
      (f = .aluHL op ∧ s.readByte s.hl = bcd y) →
    ∃ t u, exec (.ofForm f) s = .next t ∧ exec (.ofForm .daa) t = .next u ∧
      (op = .ADD → u.regs.a = bcd ((x + y) % 100) ∧ (u.flags.c = true ↔ x + y ≥ 100)) ∧
      (op = .ADC → u.regs.a = bcd ((x + y + s.flags.c.toNat) % 100) ∧
        (u.flags.c = true ↔ x + y + s.flags.c.toNat ≥ 100)) ∧
      (op = .SUB → u.regs.a = bcd ((x + 100 - y) % 100) ∧ (u.flags.c = true ↔ x < y)) ∧
      (op = .SBC → u.regs.a = bcd ((x + 200 - y - s.flags.c.toNat) % 100) ∧
        (u.flags.c = true ↔ x < y + s.flags.c.toNat)))

/-- DI clears IME and the EI latch; EI sets the latch and leaves IME; HALT sets halted; STOP, whose second byte is any
byte, sets stopped; each costs 4 cycles and changes nothing else. An illegal byte takes PC back to its own address and
records IllegalOpcode(pc0, [op]), returning no cycle count; that exec answers this state, and that the step around it
gives back the rest, is the model's split of the roll-back of R259 between the meaning and the decoder step (log entry
9, DEDUCED). EiTakesEffectAfterOneInstruction, HaltedCoreIdlesOrWakes, StoppedCoreWaitsForTheHost and
IllegalOpcodeIsRolledBackAndFinal say what the steps around them do. -/
def Obligations.SystemInstructions : Prop :=
  ∀ (b : Byte) (k : IllegalByte) (s : State),
    encode (.ofForm .di) = [0xF3#8] ∧ encode (.ofForm .ei) = [0xFB#8] ∧ encode (.ofForm .halt) = [0x76#8] ∧
    encode (.ofForm (.stop b)) = [0x10#8, b] ∧ encode (.ofForm (.illegal k)) = [k.byte] ∧
    exec (.ofForm .di) s = .next { s with ime := false, eiDelay := false, lastCycles := some 4 } ∧
    exec (.ofForm .ei) s = .next { s with eiDelay := true, lastCycles := some 4 } ∧
    exec (.ofForm .halt) s = .next { s with halted := true, lastCycles := some 4 } ∧
    exec (.ofForm (.stop b)) s = .next { s with stopped := true, lastCycles := some 4 } ∧
    exec (.ofForm (.illegal k)) s =
      .next { s with pc := s.pc - 1, fault := some { pc := s.pc - 1, bytes := [k.byte] }, lastCycles := none }

/-- For every instruction and state, when exec gives a next state, every address that reaches none of the bytes stored to
(storeAddrs, computed in the state the instruction runs in; empty for a form that stores nothing) reads as before.
Reads of 0xFF00 are the host's draws: the count of draws, a field of the model's own (log entry 3, DESIGN CHOICE),
grows by the number of the instruction's reads of 0xFF00. -/
def Obligations.StoresReachOnlyTheAddressesStoredTo : Prop :=
  ∀ (i : Instr) (s t : State), exec i s = .next t →
    (∀ a : Word, (∀ d ∈ i.form.storeAddrs s, sameByte a d = false) → a ≠ joypAddr → t.readByte a = s.readByte a) ∧
    t.joypadReads = s.joypadReads + ((i.form.loadAddrs s).filter (· == joypAddr)).length

/-- For every instruction and state, when exec gives a next state, each 8-bit register that is not a destination of the
instruction (writesRegs: the destination, and HL where the addressing mode moves it) is unchanged, SP is unchanged
unless the instruction is one that moves it, and PC is PC_next unless the instruction is a control transfer or an
illegal byte. -/
def Obligations.OnlyDestinationRegistersChange : Prop :=
  ∀ (i : Instr) (s t : State), exec i s = .next t →
    (∀ r : Reg8, r ∉ i.form.writesRegs → t.regs.get r = s.regs.get r) ∧
    (i.form.writesSP = false → t.sp = s.sp) ∧
    (i.form.transfers = false → t.pc = s.pc)

/-- For every instruction and state, when exec gives a next state, each flag the table marks - is unchanged, each marked 0
is 0 and each marked 1 is 1. -/
def Obligations.FlagsChangeAsTheTableSays : Prop :=
  ∀ (i : Instr) (s t : State), exec i s = .next t → i.form.flagEffects.agree s.flags t.flags = true

/-- For every instruction and state, when exec gives a next state: only DI and RETI change IME, only DI and EI the EI
latch, only HALT halted, only STOP stopped, only an illegal byte the fault record; no instruction changes the timing
controller, the inputs or vblank_requests_if. -/
def Obligations.ControlStateChangesOnlyWhereNamed : Prop :=
  ∀ (i : Instr) (s t : State), exec i s = .next t →
    (i ≠ .di → i ≠ .reti → t.ime = s.ime) ∧
    (i ≠ .di → i ≠ .ei → t.eiDelay = s.eiDelay) ∧
    (i ≠ .halt → t.halted = s.halted) ∧
    ((∀ b, i ≠ .stop b) → t.stopped = s.stopped) ∧
    (i.wf = true → t.fault = s.fault) ∧
    t.timing = s.timing ∧ t.inputs = s.inputs ∧ t.vblankRequestsIf = s.vblankRequestsIf

/-- For every instruction and state exec gives a next state, and the count it returns is the table's: the higher one of a
conditional transfer when its condition holds, the lower one when not. An illegal byte's step does not complete
(R259): that exec answers a next state for it, the one with the fault record and no count, is the model's reading (log
entry 9, DEDUCED). -/
def Obligations.EveryInstructionCompletesWithItsCycles : Prop :=
  ∀ (i : Instr) (s : State), ∃ t, exec i s = .next t ∧ t.lastCycles = i.form.cycles s.flags ∧
    (i.wf = false → t.fault.isSome = true ∧ t.lastCycles = none)

/-- When no fault is recorded, the core is neither halted nor stopped, no dispatch is due and no input waits, and the
bytes fetched from PC decode to a well-formed instruction, the step is exec of it in the state with the EI latch
cleared and PC past its bytes; then IME is set if the latch was set and the instruction is not DI; then the timing
controller advances by the cycles returned. -/
def Obligations.StepRunsTheDecodedInstruction : Prop :=
  ∀ (s : State) (i : Instr) (rest : List Byte), s.runs = true → decode s.nextBytes = .ok (i, rest) → i.wf = true →
    ∃ t n, exec i ({ s with eiDelay := false }.fetched (encode i).length) = .next t ∧ t.lastCycles = some n ∧
      step s = .next ((if s.eiDelay = true ∧ i ≠ .di then { t with ime := true } else t).advance n)

/-- In a state that runs an instruction: EI sets the latch, and leaves IME unless an earlier EI is pending; with the latch
set, any well-formed instruction but DI leaves IME 1, and the latch clear unless it is EI; DI leaves IME 0 and the
latch clear. A dispatch leaves the latch clear. -/
def Obligations.EiTakesEffectAfterOneInstruction : Prop :=
  (∀ (s : State) (rest : List Byte), s.runs = true → decode s.nextBytes = .ok (.ei, rest) →
      ∃ t, step s = .next t ∧ t.eiDelay = true ∧ t.ime = (s.ime || s.eiDelay)) ∧
    (∀ (s : State) (i : Instr) (rest : List Byte), s.runs = true → s.eiDelay = true →
      decode s.nextBytes = .ok (i, rest) → i.wf = true → i ≠ .di →
      ∃ t, step s = .next t ∧ t.ime = true ∧ (t.eiDelay = true ↔ i = .ei)) ∧
    (∀ (s : State) (rest : List Byte), s.runs = true → decode s.nextBytes = .ok (.di, rest) →
      ∃ t, step s = .next t ∧ t.ime = false ∧ t.eiDelay = false) ∧
    (∀ (s : State) (k : Nat), (s.dispatch k).eiDelay = false)

/-- In a state with no fault, not stopped, no input waiting, IME = 1 and source k the lowest bit set in IE & IF & 0x1F,
the step clears IF bit k, IME, the EI latch and halted, pushes PC (SP - 2, low byte at SP, high byte at SP + 1), sets
PC to 0x0040 + 8k, leaves the registers and flags, and costs 20 cycles, which the timing controller consumes; the
other requests stay. -/
def Obligations.LowestPendingInterruptIsDispatched : Prop :=
  ∀ (s : State) (k : Nat), s.fault = none → s.stopped = false → s.inputs = [] → s.ime = true → k < 5 →
    (s.readByte 0xFFFF#16).getLsbD k = true → (s.readByte 0xFF0F#16).getLsbD k = true →
    (∀ j, j < k → (s.readByte 0xFFFF#16 &&& s.readByte 0xFF0F#16).getLsbD j = false) →
    step s = .next
      (State.advance
        { (({ s with
              mem := s.mem.set 0xFF0F (s.readByte 0xFF0F#16 &&& ~~~(1#8 <<< k)), ime := false, eiDelay := false,
              halted := false, sp := s.sp - 2 } : State).writeByte (s.sp - 2) (lowByte s.pc)).writeByte
            (s.sp - 2 + 1) (highByte s.pc) with
          pc := BitVec.ofNat 16 (0x0040 + 8 * k), lastCycles := some 20 } 20)

/-- Halted with no fault, not stopped and no input waiting: with nothing pending the step fetches nothing, changes only
the timing controller (by 4 cycles) and returns 4; with something pending the step is the step of the same state with
halted cleared, which dispatches when IME = 1 and runs the instruction at PC, the one after HALT, when IME = 0.
However many such idle steps follow, with vblank_requests_if false the core stays halted. -/
def Obligations.HaltedCoreIdlesOrWakes : Prop :=
  ∀ s : State, s.fault = none → s.stopped = false → s.halted = true → s.inputs = [] →
    (s.pending = 0#8 → step s = .next { s.advance 4 with lastCycles := some 4 }) ∧
    (s.pending ≠ 0#8 → step s = step { s with halted := false }) ∧
    (s.pending ≠ 0#8 → s.ime = false → step s = advanceAfter (decoderStep { s with halted := false })) ∧
    (s.pending = 0#8 → s.vblankRequestsIf = false →
      ∀ k, ∃ t, Sys2Proof.core.run k s = .next t ∧ t.halted = true ∧ t.regs = s.regs ∧ t.flags = s.flags ∧
        t.pc = s.pc ∧ t.sp = s.sp ∧ t.ime = s.ime ∧ t.mem = s.mem)

/-- Stopped with no fault: a step with no input, or after any request of interrupts without a wake, does nothing but take
the input (and set the requested IF bits) and returns no count; with the host's wake event the step is the step of the
same state, requests taken, with stopped cleared. That the stuck state goes on as steps which change only the inputs,
IF and lastCycles is log entry 11 (DEDUCED), and the list of inputs is log entry 4 (DESIGN CHOICE); that requests set
IF while the core is stopped is R308. -/
def Obligations.StoppedCoreWaitsForTheHost : Prop :=
  ∀ (s : State) (rest : List EnvInput) (bits : BitVec 5), s.fault = none → s.stopped = true →
    (s.inputs = [] → step s = .next { s with lastCycles := none }) ∧
    (s.inputs = { requests := bits, wake := false } :: rest →
      step s = .next { s with
        mem := s.mem.set 0xFF0F (s.readByte 0xFF0F#16 ||| bits.setWidth 8), inputs := rest, lastCycles := none }) ∧
    (s.inputs = { requests := bits, wake := true } :: rest →
      step s = machineStep { s with
        mem := s.mem.set 0xFF0F (s.readByte 0xFF0F#16 ||| bits.setWidth 8), inputs := rest, stopped := false })

/-- In a state that would run an instruction, when the byte at PC is one of the eleven, the step leaves every register,
flag, control bit, memory byte and the timing controller as before and records IllegalOpcode with the byte's address
and the byte; from a state with a fault record every step is the fault that carries the report. -/
def Obligations.IllegalOpcodeIsRolledBackAndFinal : Prop :=
  (∀ (s : State) (k : IllegalByte), s.runs = true → s.readByte s.pc = k.byte →
      step s = .next { s with fault := some { pc := s.pc, bytes := [k.byte] }, lastCycles := none }) ∧
    (∀ (s : State) (r : FaultReport), s.fault = some r → step s = .fault (.illegalOpcode r))

/-- For every state in which IME = 0, when a step gives a next state with IME = 1, the EI latch was set or the byte
fetched at PC was RETI's; and with IME = 0 and no EI pending, a step whose byte at PC is neither EI nor RETI leaves
IME = 0 and no EI pending. While IME = 0 no step dispatches, whatever IE and IF hold and whatever the environment
does: the step of a core that is stopped does nothing, that of a halted core with nothing pending idles, and every
other one is the decoder step in the state with halted cleared, followed by the advance. The stopped step and the list
of inputs are log entries 11 and 4. -/
def Obligations.OnlyEiOrRetiRaisesIme : Prop :=
  (∀ s t : State, step s = .next t → s.ime = false →
    (t.ime = true → s.eiDelay = true ∨ s.environment.readByte s.pc = 0xD9#8) ∧
    (s.eiDelay = false → s.environment.readByte s.pc ≠ 0xD9#8 → s.environment.readByte s.pc ≠ 0xFB#8 →
      t.ime = false ∧ t.eiDelay = false)) ∧
  (∀ s : State, s.fault = none → s.ime = false →
    (s.environment.stopped = true → step s = .next { s.environment with lastCycles := none }) ∧
    (s.environment.stopped = false → s.halted = true → s.environment.pending = 0#8 →
      step s = .next { s.environment.advance 4 with lastCycles := some 4 }) ∧
    (s.environment.stopped = false → ¬(s.halted = true ∧ s.environment.pending = 0#8) →
      step s = advanceAfter (decoderStep { s.environment with halted := false })))

/-- For every state, when a step gives a next state in which halted (stopped) is newly set, the byte fetched at PC was
0x76 (0x10). -/
def Obligations.OnlyHaltAndStopEnterThePowerStates : Prop :=
  ∀ s t : State, step s = .next t →
    (t.halted = true → s.halted = false → s.environment.readByte s.pc = 0x76#8) ∧
    (t.stopped = true → s.stopped = false → s.environment.readByte s.pc = 0x10#8)

/-- From every legal state (memory in its canonical form, naming only storage cells; mode_cycles below the mode's
duration; scanline 143 to 153 in V-blank and below 143 otherwise), whatever the environment does, a step that gives a
next state gives a legal one. -/
def Obligations.EveryStepKeepsTheStateLegal : Prop :=
  ∀ s t : State, s.legal = true → step s = .next t → t.legal = true

/-- For every state, when a step gives a next state, every address below 0x8000 reads as before and the parameter
vblank_requests_if is as before. -/
def Obligations.RomAndParametersNeverChange : Prop :=
  ∀ s t : State, step s = .next t →
    (∀ a : Word, a.toNat < 0x8000 → t.readByte a = s.readByte a) ∧ t.vblankRequestsIf = s.vblankRequestsIf

/-- For every legal state and all m and n, two advances give the same state as one of the sum, the requests that V-blank
entry makes and the FrameReady events included. -/
def Obligations.AnySplitOfAnAdvanceIsTheSame : Prop :=
  ∀ (s : State) (m n : Nat), s.legal = true → (s.advance m).advance n = s.advance (m + n)

/-- After n cycles of advance from the reset timing state, the scanline is n mod 70224 divided by 456; in scanlines 143 to
153 the mode is V-blank and the counter is the offset in the line; in scanlines 0 to 142 the mode is OAM-scan for
offsets below 80, VRAM-read for the next 172 and H-blank for the last 204, with the counter the offset in the mode;
and FrameReady was emitted once for each V-blank entry, the first after 65208 cycles. So after 70224 cycles the state
is back at OAM-scan, line 0. -/
def Obligations.PositionAfterAnyNumberOfCycles : Prop :=
  ∀ n : Nat,
    let t := Timing.reset.advance n
    let line := n % 70224 / 456
    let offset := n % 456
    t.scanline = line ∧
    (143 ≤ line → t.mode = .vBlank ∧ t.modeCycles = offset) ∧
    (line < 143 → offset < 80 → t.mode = .oamScan ∧ t.modeCycles = offset) ∧
    (line < 143 → 80 ≤ offset → offset < 252 → t.mode = .vramRead ∧ t.modeCycles = offset - 80) ∧
    (line < 143 → 252 ≤ offset → t.mode = .hBlank ∧ t.modeCycles = offset - 252) ∧
    t.framesReady = (n + (70224 - 65208)) / 70224

/-- From a legal state, an advance shorter than a frame from another mode into V-blank emits exactly one FrameReady; when
the count of frames grew and vblank_requests_if is true, IF bit 0 is set and nothing else but the timing controller
changes; otherwise only the timing controller changes. -/
def Obligations.VBlankEntryRequestsOnlyWhenConfigured : Prop :=
  ∀ (s : State) (n : Nat), s.legal = true →
    (s.vblankRequestsIf = true → (s.advance n).timing.framesReady ≠ s.timing.framesReady →
      s.advance n = { s with timing := s.timing.advance n, mem := s.mem.set 0xFF0F (s.readByte 0xFF0F#16 ||| 0x01#8) }) ∧
    (s.vblankRequestsIf = false ∨ (s.advance n).timing.framesReady = s.timing.framesReady →
      s.advance n = { s with timing := s.timing.advance n }) ∧
    (n < 70224 → s.timing.mode ≠ .vBlank → (s.timing.advance n).mode = .vBlank →
      (s.timing.advance n).framesReady = s.timing.framesReady + 1)

/-- For any RESET_REGS and memory: PC = 0x0100, SP = 0xFFFE, no fault; IME, the EI latch, halted and stopped are 0; the
timing controller is at OAM-scan, counter 0, scanline 0, and 0xFF44 reads 0. With the default RESET_REGS, A = 0x01, F
= 0xB0, BC = 0x0013, DE = 0x00D8, HL = 0x014D. IE and IF come from the memory given; that State.reset lists no memory
is the model's choice (log entry 1), and nothing here rests on it. -/
def Obligations.ResetLeavesTheStatedValues : Prop :=
  ∀ (r : ResetRegs) (m : Memory),
    let s := State.resetWith r m
    s.pc = 0x0100#16 ∧ s.sp = 0xFFFE#16 ∧ s.fault = none ∧ s.regs = r.regs ∧ s.flags = r.flags ∧ s.mem = m ∧
    s.ime = false ∧ s.eiDelay = false ∧ s.halted = false ∧ s.stopped = false ∧
    s.timing.mode = .oamScan ∧ s.timing.modeCycles = 0 ∧ s.timing.scanline = 0 ∧ s.readByte 0xFF44#16 = 0#8 ∧
    resetRegsDefault.regs.a = 0x01#8 ∧ resetRegsDefault.flags.pack = 0xB0#8 ∧
    State.reset.pair .BC = 0x0013#16 ∧ State.reset.pair .DE = 0x00D8#16 ∧ State.reset.pair .HL = 0x014D#16 ∧
    State.reset = State.resetWith resetRegsDefault State.reset.mem

/-- Memory is in its canonical form and the timing controller is legal at State.reset, and for any RESET_REGS over any
canonical memory. -/
def Obligations.ResetStateIsLegal : Prop :=
  State.reset.legal = true ∧ ∀ (r : ResetRegs) (m : Memory), m.wf = true → (State.resetWith r m).legal = true

/-- For every RESET_REGS, initial RAM and image: an image of exactly 16384 bytes gives a legal machine in the reset state
whose address i below 0x4000 reads image byte i, whatever the header holds; any other length gives ROMLoadError and no
machine. -/
def Obligations.ConstructionLoadsTheImageOrRefuses : Prop :=
  ∀ (r : ResetRegs) (ram : List Host.Cell) (image : List Byte),
    (image.length = 16384 →
      ∃ s, construct r ram image = .next s ∧ s = State.resetWith r s.mem ∧ s.legal = true ∧
        ∀ i, i < 16384 → s.readByte (BitVec.ofNat 16 i) = image.getD i 0) ∧
    (image.length ≠ 16384 → construct r ram image = .fault (.romLoadError image.length))

/-- In every state with no fault whose next input is e, stopped or not, halted or not, the step is the machine step of the
state with the requested bits or-ed into IF, e taken from the inputs, and stopped cleared exactly when e wakes (a wake
of a core that is not stopped does nothing, log entry 19); with no input waiting it is the machine step of the state
itself. So in a legal state with IME = 1, on a core that is not left stopped, when e requests an enabled source k and
no lower source is enabled, that step dispatches k: 20 cycles, PC = 0x0040 + 8k, SP lower by 2, IME and halted 0, the
registers and flags as they were. The list of inputs is log entry 4 (DESIGN CHOICE); that requests set IF between
steps is R308. -/
def Obligations.TheEnvironmentActsBeforeTheStep : Prop :=
  (∀ s : State, s.fault = none →
    (s.inputs = [] → step s = machineStep s) ∧
    (∀ (e : EnvInput) (rest : List EnvInput), s.inputs = e :: rest →
      step s = machineStep { s with
        mem := s.mem.set 0xFF0F (s.readByte 0xFF0F#16 ||| e.requests.setWidth 8), inputs := rest,
        stopped := s.stopped && !e.wake })) ∧
  (∀ (s : State) (e : EnvInput) (rest : List EnvInput) (k : Nat), s.legal = true → s.fault = none →
    s.inputs = e :: rest → (s.stopped = true → e.wake = true) → s.ime = true → e.requests.getLsbD k = true →
    (s.readByte 0xFFFF#16).getLsbD k = true → (∀ j, j < k → (s.readByte 0xFFFF#16).getLsbD j = false) →
    ∃ t, step s = .next t ∧ t.pc = BitVec.ofNat 16 (0x0040 + 8 * k) ∧ t.sp = s.sp - 2 ∧ t.ime = false ∧
      t.halted = false ∧ t.stopped = false ∧ t.regs = s.regs ∧ t.flags = s.flags ∧ t.inputs = rest ∧
      t.lastCycles = some 20)
end

