-- ==== Sys2Proof/Laws/Memory.lean ====
section
/-! SUPPORT. The laws of memory cells: a read after a write, the canonical form, and that every memory operation keeps
it. -/

namespace Sys2Proof.Machine

theorem Memory.get_nil (k : Nat) : Memory.get [] k = Config.unlisted := rfl

theorem Memory.get_cons (i : Nat) (v : Byte) (m : Memory) (k : Nat) :
    Memory.get ((i, v) :: m) k = if i = k then v else m.get k := rfl

theorem aboveBound_eq_true {lo : Option Nat} {k : Nat} : aboveBound lo k = true ↔ ∀ l, lo = some l → l < k := by
  cases lo <;> simp [aboveBound]

theorem aboveBound_some (l k : Nat) : aboveBound (some l) k = decide (l < k) := rfl

/-- Below a bound that the form keeps, nothing is listed. -/
theorem Memory.get_of_wfAbove {l : Nat} {m : Memory} (h : Memory.wfAbove (some l) m = true) {k : Nat} (hk : k ≤ l) :
    m.get k = Config.unlisted := by
  induction m generalizing l with
  | nil => rfl
  | cons c rest ih =>
    obtain ⟨i, v⟩ := c
    simp only [Memory.wfAbove, aboveBound, Bool.and_eq_true, decide_eq_true_eq] at h
    rw [Memory.get_cons, if_neg (by omega)]
    exact ih h.2 (by omega)

/-- Reading the cell written gives the byte written, in canonical memory. -/
theorem Memory.get_set_same_above {lo : Option Nat} {m : Memory} (h : Memory.wfAbove lo m = true) (k : Nat) (v : Byte) :
    (m.set k v).get k = v := by
  induction m generalizing lo with
  | nil =>
    unfold Memory.set
    split
    · simp_all [Memory.get_nil]
    · simp [Memory.get_cons]
  | cons c rest ih =>
    obtain ⟨i, w⟩ := c
    simp only [Memory.wfAbove, Bool.and_eq_true] at h
    unfold Memory.set
    split
    · rename_i hlt
      split
      · rename_i hv
        rw [Memory.get_cons, if_neg (by omega), Memory.get_of_wfAbove h.2 (by omega), hv]
      · simp [Memory.get_cons]
    · split
      · rename_i hki
        split
        · rename_i hv
          rw [Memory.get_of_wfAbove h.2 (by omega), hv]
        · simp [Memory.get_cons]
      · rw [Memory.get_cons, if_neg (by omega)]
        exact ih h.2

/-- Reading the cell written gives the byte written, in canonical memory. -/
theorem Memory.get_set_same {m : Memory} (h : m.wf = true) (k : Nat) (v : Byte) : (m.set k v).get k = v :=
  Memory.get_set_same_above h k v

/-- Every other cell reads as before. -/
theorem Memory.get_set_other (m : Memory) {k j : Nat} (v : Byte) (h : j ≠ k) : (m.set k v).get j = m.get j := by
  induction m with
  | nil =>
    unfold Memory.set
    split
    · rfl
    · rw [Memory.get_cons, if_neg (by omega)]
  | cons c rest ih =>
    obtain ⟨i, w⟩ := c
    unfold Memory.set
    split
    · split
      · rfl
      · rw [Memory.get_cons, if_neg (by omega)]
    · split
      · rename_i hki
        split
        · rw [Memory.get_cons, if_neg (by omega)]
        · rw [Memory.get_cons, Memory.get_cons, if_neg (by omega), if_neg (by omega)]
      · rw [Memory.get_cons, Memory.get_cons, ih]

/-- A write to a storage cell keeps the canonical form above a bound the cell is above. -/
theorem Memory.set_wfAbove {lo : Option Nat} {m : Memory} (h : Memory.wfAbove lo m = true) {k : Nat} (v : Byte)
    (hc : isCell k = true) (hk : ∀ l, lo = some l → l < k) : Memory.wfAbove lo (m.set k v) = true := by
  have top : aboveBound lo k = true := aboveBound_eq_true.2 hk
  induction m generalizing lo with
  | nil =>
    unfold Memory.set
    split
    · rfl
    · rename_i hv
      simp [Memory.wfAbove, top, hc, hv]
  | cons c rest ih =>
    obtain ⟨i, w⟩ := c
    have h' := h
    simp only [Memory.wfAbove, Bool.and_eq_true] at h
    unfold Memory.set
    split
    · rename_i hlt
      split
      · exact h'
      · rename_i hv
        simp [Memory.wfAbove, top, hc, hv, h.1.1.2, h.1.2, h.2, aboveBound_some, hlt]
    · split
      · rename_i hki
        subst hki
        split
        · have mono : ∀ m : Memory, Memory.wfAbove (some k) m = true → Memory.wfAbove lo m = true := by
            intro m hm
            cases m with
            | nil => rfl
            | cons d r =>
              obtain ⟨j, u⟩ := d
              simp only [Memory.wfAbove, Bool.and_eq_true, aboveBound_eq_true] at hm ⊢
              refine ⟨⟨⟨fun l hl => ?_, hm.1.1.2⟩, hm.1.2⟩, hm.2⟩
              have := hk l hl
              have := hm.1.1.1 k rfl
              omega
          exact mono _ h.2
        · rename_i hv
          simp [Memory.wfAbove, top, hc, hv, h.2]
      · rename_i h1 h2
        simp only [Memory.wfAbove, Bool.and_eq_true]
        refine ⟨h.1, ?_⟩
        exact ih h.2 (by intro l hl; injection hl with hl; omega) (aboveBound_eq_true.2 (by intro l hl; injection hl with hl; omega))

/-- A write to a storage cell keeps the canonical form. -/
theorem Memory.set_wf {m : Memory} (h : m.wf = true) {k : Nat} (v : Byte) (hc : isCell k = true) :
    (m.set k v).wf = true :=
  Memory.set_wfAbove h v hc (by simp)

/-- Writing one cell twice with one byte is writing it once. -/
theorem Memory.set_set_above {lo : Option Nat} {m : Memory} (h : Memory.wfAbove lo m = true) (k : Nat) (v : Byte) :
    (m.set k v).set k v = m.set k v := by
  induction m generalizing lo with
  | nil => by_cases hv : v = Config.unlisted <;> simp [Memory.set, hv]
  | cons c rest ih =>
    obtain ⟨i, w⟩ := c
    simp only [Memory.wfAbove, Bool.and_eq_true] at h
    by_cases h1 : k < i
    · by_cases hv : v = Config.unlisted <;> simp [Memory.set, hv, h1]
    · by_cases h2 : k = i
      · subst h2
        by_cases hv : v = Config.unlisted
        · simp only [Memory.set, hv, Nat.lt_irrefl, if_false, if_true]
          cases rest with
          | nil => rfl
          | cons d r =>
            obtain ⟨j, u⟩ := d
            have := h.2
            simp only [Memory.wfAbove, aboveBound_some, Bool.and_eq_true, decide_eq_true_eq] at this
            simp [Memory.set, this.1.1.1]
        · simp [Memory.set, hv]
      · simp [Memory.set, h1, h2, ih h.2]

theorem Memory.set_set {m : Memory} (h : m.wf = true) (k : Nat) (v : Byte) : (m.set k v).set k v = m.set k v :=
  Memory.set_set_above h k v

/-- The cells of an image are in canonical form when they lie in ROM bank 0. -/
theorem romCells_wfAbove (image : List Byte) (k : Nat) (lo : Option Nat) (hk : k + image.length ≤ 0x4000)
    (hlo : ∀ l, lo = some l → l < k) : Memory.wfAbove lo (romCells k image) = true := by
  induction image generalizing k lo with
  | nil => rfl
  | cons b rest ih =>
    simp only [List.length_cons] at hk
    unfold romCells
    split
    · exact ih (k + 1) lo (by omega) (fun l hl => Nat.lt_succ_of_lt (hlo l hl))
    · rename_i hb
      have hc : isCell k = true := by simp [isCell]; omega
      have top : aboveBound lo k = true := aboveBound_eq_true.2 hlo
      simp only [Memory.wfAbove, Bool.and_eq_true]
      refine ⟨⟨⟨top, hc⟩, by simpa using hb⟩, ih (k + 1) (some k) (by omega) (by intro l hl; injection hl with hl; omega)⟩

/-- What a cell of a loaded image reads as. -/
theorem romCells_get (image : List Byte) (k i : Nat) :
    Memory.get (romCells k image) (k + i) = image.getD i Config.unlisted := by
  have below : ∀ (im : List Byte) (k j : Nat), j < k → Memory.get (romCells k im) j = Config.unlisted := by
    intro im
    induction im with
    | nil => intros; rfl
    | cons b rest ih =>
      intro k j hj
      unfold romCells
      split
      · exact ih (k + 1) j (by omega)
      · rw [Memory.get_cons, if_neg (by omega)]
        exact ih (k + 1) j (by omega)
  induction image generalizing k i with
  | nil => rfl
  | cons b rest ih =>
    cases i with
    | zero =>
      unfold romCells
      split
      · rename_i hb
        rw [below rest (k + 1) (k + 0) (by omega)]
        simpa using hb.symm
      · simp [Memory.get_cons]
    | succ n =>
      have e : k + (n + 1) = k + 1 + n := by omega
      unfold romCells
      split
      · rw [e, ih]; simp
      · rw [Memory.get_cons, if_neg (by omega), e, ih]; simp

/-- Loading RAM keeps the canonical form. -/
theorem loadRam_wf (ram : List Host.Cell) {m : Memory} (h : m.wf = true) : (loadRam ram m).wf = true := by
  unfold loadRam
  induction ram generalizing m with
  | nil => exact h
  | cons c rest ih =>
    rw [List.foldl_cons]
    split
    · rename_i hc
      simp only [Bool.and_eq_true] at hc
      exact ih (Memory.set_wf h _ hc.1)
    · exact ih h

/-- Loading RAM leaves the ROM bank alone. -/
theorem loadRam_get_rom (ram : List Host.Cell) (m : Memory) {k : Nat} (hk : k < 0x8000) :
    (loadRam ram m).get k = m.get k := by
  unfold loadRam
  induction ram generalizing m with
  | nil => rfl
  | cons c rest ih =>
    rw [List.foldl_cons, ih]
    split
    · rename_i hc
      simp only [Bool.and_eq_true, decide_eq_true_eq] at hc
      exact Memory.get_set_other _ _ (by omega)
    · rfl

end Sys2Proof.Machine
end

