-- ==== Sys2Proof/Laws/State.lean ====
section
/-! SUPPORT. One lemma for each field and each update of the state, so that no later proof unfolds a record update. -/

namespace Sys2Proof.Machine

/-! `setReg` -/

@[simp] theorem State.setReg_regs (s : State) (r : Reg8) (v : Byte) : (s.setReg r v).regs = s.regs.set r v := rfl
@[simp] theorem State.setReg_flags (s : State) (r : Reg8) (v : Byte) : (s.setReg r v).flags = s.flags := rfl
@[simp] theorem State.setReg_pc (s : State) (r : Reg8) (v : Byte) : (s.setReg r v).pc = s.pc := rfl
@[simp] theorem State.setReg_sp (s : State) (r : Reg8) (v : Byte) : (s.setReg r v).sp = s.sp := rfl
@[simp] theorem State.setReg_ime (s : State) (r : Reg8) (v : Byte) : (s.setReg r v).ime = s.ime := rfl
@[simp] theorem State.setReg_eiDelay (s : State) (r : Reg8) (v : Byte) : (s.setReg r v).eiDelay = s.eiDelay := rfl
@[simp] theorem State.setReg_halted (s : State) (r : Reg8) (v : Byte) : (s.setReg r v).halted = s.halted := rfl
@[simp] theorem State.setReg_stopped (s : State) (r : Reg8) (v : Byte) : (s.setReg r v).stopped = s.stopped := rfl
@[simp] theorem State.setReg_fault (s : State) (r : Reg8) (v : Byte) : (s.setReg r v).fault = s.fault := rfl
@[simp] theorem State.setReg_timing (s : State) (r : Reg8) (v : Byte) : (s.setReg r v).timing = s.timing := rfl
@[simp] theorem State.setReg_mem (s : State) (r : Reg8) (v : Byte) : (s.setReg r v).mem = s.mem := rfl
@[simp] theorem State.setReg_vblankRequestsIf (s : State) (r : Reg8) (v : Byte) : (s.setReg r v).vblankRequestsIf = s.vblankRequestsIf := rfl
@[simp] theorem State.setReg_inputs (s : State) (r : Reg8) (v : Byte) : (s.setReg r v).inputs = s.inputs := rfl
@[simp] theorem State.setReg_joypadReads (s : State) (r : Reg8) (v : Byte) : (s.setReg r v).joypadReads = s.joypadReads := rfl
@[simp] theorem State.setReg_lastCycles (s : State) (r : Reg8) (v : Byte) : (s.setReg r v).lastCycles = s.lastCycles := rfl

/-! `setBC` -/

@[simp] theorem State.setBC_regs (s : State) (v : Word) : (s.setBC v).regs = { s.regs with b := highByte v, c := lowByte v } := rfl
@[simp] theorem State.setBC_flags (s : State) (v : Word) : (s.setBC v).flags = s.flags := rfl
@[simp] theorem State.setBC_pc (s : State) (v : Word) : (s.setBC v).pc = s.pc := rfl
@[simp] theorem State.setBC_sp (s : State) (v : Word) : (s.setBC v).sp = s.sp := rfl
@[simp] theorem State.setBC_ime (s : State) (v : Word) : (s.setBC v).ime = s.ime := rfl
@[simp] theorem State.setBC_eiDelay (s : State) (v : Word) : (s.setBC v).eiDelay = s.eiDelay := rfl
@[simp] theorem State.setBC_halted (s : State) (v : Word) : (s.setBC v).halted = s.halted := rfl
@[simp] theorem State.setBC_stopped (s : State) (v : Word) : (s.setBC v).stopped = s.stopped := rfl
@[simp] theorem State.setBC_fault (s : State) (v : Word) : (s.setBC v).fault = s.fault := rfl
@[simp] theorem State.setBC_timing (s : State) (v : Word) : (s.setBC v).timing = s.timing := rfl
@[simp] theorem State.setBC_mem (s : State) (v : Word) : (s.setBC v).mem = s.mem := rfl
@[simp] theorem State.setBC_vblankRequestsIf (s : State) (v : Word) : (s.setBC v).vblankRequestsIf = s.vblankRequestsIf := rfl
@[simp] theorem State.setBC_inputs (s : State) (v : Word) : (s.setBC v).inputs = s.inputs := rfl
@[simp] theorem State.setBC_joypadReads (s : State) (v : Word) : (s.setBC v).joypadReads = s.joypadReads := rfl
@[simp] theorem State.setBC_lastCycles (s : State) (v : Word) : (s.setBC v).lastCycles = s.lastCycles := rfl

/-! `setDE` -/

@[simp] theorem State.setDE_regs (s : State) (v : Word) : (s.setDE v).regs = { s.regs with d := highByte v, e := lowByte v } := rfl
@[simp] theorem State.setDE_flags (s : State) (v : Word) : (s.setDE v).flags = s.flags := rfl
@[simp] theorem State.setDE_pc (s : State) (v : Word) : (s.setDE v).pc = s.pc := rfl
@[simp] theorem State.setDE_sp (s : State) (v : Word) : (s.setDE v).sp = s.sp := rfl
@[simp] theorem State.setDE_ime (s : State) (v : Word) : (s.setDE v).ime = s.ime := rfl
@[simp] theorem State.setDE_eiDelay (s : State) (v : Word) : (s.setDE v).eiDelay = s.eiDelay := rfl
@[simp] theorem State.setDE_halted (s : State) (v : Word) : (s.setDE v).halted = s.halted := rfl
@[simp] theorem State.setDE_stopped (s : State) (v : Word) : (s.setDE v).stopped = s.stopped := rfl
@[simp] theorem State.setDE_fault (s : State) (v : Word) : (s.setDE v).fault = s.fault := rfl
@[simp] theorem State.setDE_timing (s : State) (v : Word) : (s.setDE v).timing = s.timing := rfl
@[simp] theorem State.setDE_mem (s : State) (v : Word) : (s.setDE v).mem = s.mem := rfl
@[simp] theorem State.setDE_vblankRequestsIf (s : State) (v : Word) : (s.setDE v).vblankRequestsIf = s.vblankRequestsIf := rfl
@[simp] theorem State.setDE_inputs (s : State) (v : Word) : (s.setDE v).inputs = s.inputs := rfl
@[simp] theorem State.setDE_joypadReads (s : State) (v : Word) : (s.setDE v).joypadReads = s.joypadReads := rfl
@[simp] theorem State.setDE_lastCycles (s : State) (v : Word) : (s.setDE v).lastCycles = s.lastCycles := rfl

/-! `setHL` -/

@[simp] theorem State.setHL_regs (s : State) (v : Word) : (s.setHL v).regs = { s.regs with h := highByte v, l := lowByte v } := rfl
@[simp] theorem State.setHL_flags (s : State) (v : Word) : (s.setHL v).flags = s.flags := rfl
@[simp] theorem State.setHL_pc (s : State) (v : Word) : (s.setHL v).pc = s.pc := rfl
@[simp] theorem State.setHL_sp (s : State) (v : Word) : (s.setHL v).sp = s.sp := rfl
@[simp] theorem State.setHL_ime (s : State) (v : Word) : (s.setHL v).ime = s.ime := rfl
@[simp] theorem State.setHL_eiDelay (s : State) (v : Word) : (s.setHL v).eiDelay = s.eiDelay := rfl
@[simp] theorem State.setHL_halted (s : State) (v : Word) : (s.setHL v).halted = s.halted := rfl
@[simp] theorem State.setHL_stopped (s : State) (v : Word) : (s.setHL v).stopped = s.stopped := rfl
@[simp] theorem State.setHL_fault (s : State) (v : Word) : (s.setHL v).fault = s.fault := rfl
@[simp] theorem State.setHL_timing (s : State) (v : Word) : (s.setHL v).timing = s.timing := rfl
@[simp] theorem State.setHL_mem (s : State) (v : Word) : (s.setHL v).mem = s.mem := rfl
@[simp] theorem State.setHL_vblankRequestsIf (s : State) (v : Word) : (s.setHL v).vblankRequestsIf = s.vblankRequestsIf := rfl
@[simp] theorem State.setHL_inputs (s : State) (v : Word) : (s.setHL v).inputs = s.inputs := rfl
@[simp] theorem State.setHL_joypadReads (s : State) (v : Word) : (s.setHL v).joypadReads = s.joypadReads := rfl
@[simp] theorem State.setHL_lastCycles (s : State) (v : Word) : (s.setHL v).lastCycles = s.lastCycles := rfl

/-! `setPair` -/

@[simp] theorem State.setPair_flags (s : State) (p : Reg16) (v : Word) : (s.setPair p v).flags = s.flags := by cases p <;> rfl
@[simp] theorem State.setPair_pc (s : State) (p : Reg16) (v : Word) : (s.setPair p v).pc = s.pc := by cases p <;> rfl
@[simp] theorem State.setPair_ime (s : State) (p : Reg16) (v : Word) : (s.setPair p v).ime = s.ime := by cases p <;> rfl
@[simp] theorem State.setPair_eiDelay (s : State) (p : Reg16) (v : Word) : (s.setPair p v).eiDelay = s.eiDelay := by cases p <;> rfl
@[simp] theorem State.setPair_halted (s : State) (p : Reg16) (v : Word) : (s.setPair p v).halted = s.halted := by cases p <;> rfl
@[simp] theorem State.setPair_stopped (s : State) (p : Reg16) (v : Word) : (s.setPair p v).stopped = s.stopped := by cases p <;> rfl
@[simp] theorem State.setPair_fault (s : State) (p : Reg16) (v : Word) : (s.setPair p v).fault = s.fault := by cases p <;> rfl
@[simp] theorem State.setPair_timing (s : State) (p : Reg16) (v : Word) : (s.setPair p v).timing = s.timing := by cases p <;> rfl
@[simp] theorem State.setPair_mem (s : State) (p : Reg16) (v : Word) : (s.setPair p v).mem = s.mem := by cases p <;> rfl
@[simp] theorem State.setPair_vblankRequestsIf (s : State) (p : Reg16) (v : Word) : (s.setPair p v).vblankRequestsIf = s.vblankRequestsIf := by cases p <;> rfl
@[simp] theorem State.setPair_inputs (s : State) (p : Reg16) (v : Word) : (s.setPair p v).inputs = s.inputs := by cases p <;> rfl
@[simp] theorem State.setPair_joypadReads (s : State) (p : Reg16) (v : Word) : (s.setPair p v).joypadReads = s.joypadReads := by cases p <;> rfl
@[simp] theorem State.setPair_lastCycles (s : State) (p : Reg16) (v : Word) : (s.setPair p v).lastCycles = s.lastCycles := by cases p <;> rfl

/-! `setStackPair` -/

@[simp] theorem State.setStackPair_pc (s : State) (p : StackPair) (v : Word) : (s.setStackPair p v).pc = s.pc := by cases p <;> rfl
@[simp] theorem State.setStackPair_sp (s : State) (p : StackPair) (v : Word) : (s.setStackPair p v).sp = s.sp := by cases p <;> rfl
@[simp] theorem State.setStackPair_ime (s : State) (p : StackPair) (v : Word) : (s.setStackPair p v).ime = s.ime := by cases p <;> rfl
@[simp] theorem State.setStackPair_eiDelay (s : State) (p : StackPair) (v : Word) : (s.setStackPair p v).eiDelay = s.eiDelay := by cases p <;> rfl
@[simp] theorem State.setStackPair_halted (s : State) (p : StackPair) (v : Word) : (s.setStackPair p v).halted = s.halted := by cases p <;> rfl
@[simp] theorem State.setStackPair_stopped (s : State) (p : StackPair) (v : Word) : (s.setStackPair p v).stopped = s.stopped := by cases p <;> rfl
@[simp] theorem State.setStackPair_fault (s : State) (p : StackPair) (v : Word) : (s.setStackPair p v).fault = s.fault := by cases p <;> rfl
@[simp] theorem State.setStackPair_timing (s : State) (p : StackPair) (v : Word) : (s.setStackPair p v).timing = s.timing := by cases p <;> rfl
@[simp] theorem State.setStackPair_mem (s : State) (p : StackPair) (v : Word) : (s.setStackPair p v).mem = s.mem := by cases p <;> rfl
@[simp] theorem State.setStackPair_vblankRequestsIf (s : State) (p : StackPair) (v : Word) : (s.setStackPair p v).vblankRequestsIf = s.vblankRequestsIf := by cases p <;> rfl
@[simp] theorem State.setStackPair_inputs (s : State) (p : StackPair) (v : Word) : (s.setStackPair p v).inputs = s.inputs := by cases p <;> rfl
@[simp] theorem State.setStackPair_joypadReads (s : State) (p : StackPair) (v : Word) : (s.setStackPair p v).joypadReads = s.joypadReads := by cases p <;> rfl
@[simp] theorem State.setStackPair_lastCycles (s : State) (p : StackPair) (v : Word) : (s.setStackPair p v).lastCycles = s.lastCycles := by cases p <;> rfl

/-! `afterRead` -/

@[simp] theorem State.afterRead_regs (s : State) (a : Word) : (s.afterRead a).regs = s.regs := by unfold State.afterRead; split <;> rfl
@[simp] theorem State.afterRead_flags (s : State) (a : Word) : (s.afterRead a).flags = s.flags := by unfold State.afterRead; split <;> rfl
@[simp] theorem State.afterRead_pc (s : State) (a : Word) : (s.afterRead a).pc = s.pc := by unfold State.afterRead; split <;> rfl
@[simp] theorem State.afterRead_sp (s : State) (a : Word) : (s.afterRead a).sp = s.sp := by unfold State.afterRead; split <;> rfl
@[simp] theorem State.afterRead_ime (s : State) (a : Word) : (s.afterRead a).ime = s.ime := by unfold State.afterRead; split <;> rfl
@[simp] theorem State.afterRead_eiDelay (s : State) (a : Word) : (s.afterRead a).eiDelay = s.eiDelay := by unfold State.afterRead; split <;> rfl
@[simp] theorem State.afterRead_halted (s : State) (a : Word) : (s.afterRead a).halted = s.halted := by unfold State.afterRead; split <;> rfl
@[simp] theorem State.afterRead_stopped (s : State) (a : Word) : (s.afterRead a).stopped = s.stopped := by unfold State.afterRead; split <;> rfl
@[simp] theorem State.afterRead_fault (s : State) (a : Word) : (s.afterRead a).fault = s.fault := by unfold State.afterRead; split <;> rfl
@[simp] theorem State.afterRead_timing (s : State) (a : Word) : (s.afterRead a).timing = s.timing := by unfold State.afterRead; split <;> rfl
@[simp] theorem State.afterRead_mem (s : State) (a : Word) : (s.afterRead a).mem = s.mem := by unfold State.afterRead; split <;> rfl
@[simp] theorem State.afterRead_vblankRequestsIf (s : State) (a : Word) : (s.afterRead a).vblankRequestsIf = s.vblankRequestsIf := by unfold State.afterRead; split <;> rfl
@[simp] theorem State.afterRead_inputs (s : State) (a : Word) : (s.afterRead a).inputs = s.inputs := by unfold State.afterRead; split <;> rfl
@[simp] theorem State.afterRead_lastCycles (s : State) (a : Word) : (s.afterRead a).lastCycles = s.lastCycles := by unfold State.afterRead; split <;> rfl

/-! `writeByte` -/

@[simp] theorem State.writeByte_regs (s : State) (a : Word) (v : Byte) : (s.writeByte a v).regs = s.regs := by unfold State.writeByte; repeat (first | rfl | split)
@[simp] theorem State.writeByte_flags (s : State) (a : Word) (v : Byte) : (s.writeByte a v).flags = s.flags := by unfold State.writeByte; repeat (first | rfl | split)
@[simp] theorem State.writeByte_pc (s : State) (a : Word) (v : Byte) : (s.writeByte a v).pc = s.pc := by unfold State.writeByte; repeat (first | rfl | split)
@[simp] theorem State.writeByte_sp (s : State) (a : Word) (v : Byte) : (s.writeByte a v).sp = s.sp := by unfold State.writeByte; repeat (first | rfl | split)
@[simp] theorem State.writeByte_ime (s : State) (a : Word) (v : Byte) : (s.writeByte a v).ime = s.ime := by unfold State.writeByte; repeat (first | rfl | split)
@[simp] theorem State.writeByte_eiDelay (s : State) (a : Word) (v : Byte) : (s.writeByte a v).eiDelay = s.eiDelay := by unfold State.writeByte; repeat (first | rfl | split)
@[simp] theorem State.writeByte_halted (s : State) (a : Word) (v : Byte) : (s.writeByte a v).halted = s.halted := by unfold State.writeByte; repeat (first | rfl | split)
@[simp] theorem State.writeByte_stopped (s : State) (a : Word) (v : Byte) : (s.writeByte a v).stopped = s.stopped := by unfold State.writeByte; repeat (first | rfl | split)
@[simp] theorem State.writeByte_fault (s : State) (a : Word) (v : Byte) : (s.writeByte a v).fault = s.fault := by unfold State.writeByte; repeat (first | rfl | split)
@[simp] theorem State.writeByte_timing (s : State) (a : Word) (v : Byte) : (s.writeByte a v).timing = s.timing := by unfold State.writeByte; repeat (first | rfl | split)
@[simp] theorem State.writeByte_vblankRequestsIf (s : State) (a : Word) (v : Byte) : (s.writeByte a v).vblankRequestsIf = s.vblankRequestsIf := by unfold State.writeByte; repeat (first | rfl | split)
@[simp] theorem State.writeByte_inputs (s : State) (a : Word) (v : Byte) : (s.writeByte a v).inputs = s.inputs := by unfold State.writeByte; repeat (first | rfl | split)
@[simp] theorem State.writeByte_joypadReads (s : State) (a : Word) (v : Byte) : (s.writeByte a v).joypadReads = s.joypadReads := by unfold State.writeByte; repeat (first | rfl | split)
@[simp] theorem State.writeByte_lastCycles (s : State) (a : Word) (v : Byte) : (s.writeByte a v).lastCycles = s.lastCycles := by unfold State.writeByte; repeat (first | rfl | split)

/-! `afterReadWord` -/

@[simp] theorem State.afterReadWord_regs (s : State) (a : Word) : (s.afterReadWord a).regs = s.regs := by simp [State.afterReadWord]
@[simp] theorem State.afterReadWord_flags (s : State) (a : Word) : (s.afterReadWord a).flags = s.flags := by simp [State.afterReadWord]
@[simp] theorem State.afterReadWord_pc (s : State) (a : Word) : (s.afterReadWord a).pc = s.pc := by simp [State.afterReadWord]
@[simp] theorem State.afterReadWord_sp (s : State) (a : Word) : (s.afterReadWord a).sp = s.sp := by simp [State.afterReadWord]
@[simp] theorem State.afterReadWord_ime (s : State) (a : Word) : (s.afterReadWord a).ime = s.ime := by simp [State.afterReadWord]
@[simp] theorem State.afterReadWord_eiDelay (s : State) (a : Word) : (s.afterReadWord a).eiDelay = s.eiDelay := by simp [State.afterReadWord]
@[simp] theorem State.afterReadWord_halted (s : State) (a : Word) : (s.afterReadWord a).halted = s.halted := by simp [State.afterReadWord]
@[simp] theorem State.afterReadWord_stopped (s : State) (a : Word) : (s.afterReadWord a).stopped = s.stopped := by simp [State.afterReadWord]
@[simp] theorem State.afterReadWord_fault (s : State) (a : Word) : (s.afterReadWord a).fault = s.fault := by simp [State.afterReadWord]
@[simp] theorem State.afterReadWord_timing (s : State) (a : Word) : (s.afterReadWord a).timing = s.timing := by simp [State.afterReadWord]
@[simp] theorem State.afterReadWord_mem (s : State) (a : Word) : (s.afterReadWord a).mem = s.mem := by simp [State.afterReadWord]
@[simp] theorem State.afterReadWord_vblankRequestsIf (s : State) (a : Word) : (s.afterReadWord a).vblankRequestsIf = s.vblankRequestsIf := by simp [State.afterReadWord]
@[simp] theorem State.afterReadWord_inputs (s : State) (a : Word) : (s.afterReadWord a).inputs = s.inputs := by simp [State.afterReadWord]
@[simp] theorem State.afterReadWord_lastCycles (s : State) (a : Word) : (s.afterReadWord a).lastCycles = s.lastCycles := by simp [State.afterReadWord]

/-! `writeWord` -/

@[simp] theorem State.writeWord_regs (s : State) (a v : Word) : (s.writeWord a v).regs = s.regs := by simp [State.writeWord]
@[simp] theorem State.writeWord_flags (s : State) (a v : Word) : (s.writeWord a v).flags = s.flags := by simp [State.writeWord]
@[simp] theorem State.writeWord_pc (s : State) (a v : Word) : (s.writeWord a v).pc = s.pc := by simp [State.writeWord]
@[simp] theorem State.writeWord_sp (s : State) (a v : Word) : (s.writeWord a v).sp = s.sp := by simp [State.writeWord]
@[simp] theorem State.writeWord_ime (s : State) (a v : Word) : (s.writeWord a v).ime = s.ime := by simp [State.writeWord]
@[simp] theorem State.writeWord_eiDelay (s : State) (a v : Word) : (s.writeWord a v).eiDelay = s.eiDelay := by simp [State.writeWord]
@[simp] theorem State.writeWord_halted (s : State) (a v : Word) : (s.writeWord a v).halted = s.halted := by simp [State.writeWord]
@[simp] theorem State.writeWord_stopped (s : State) (a v : Word) : (s.writeWord a v).stopped = s.stopped := by simp [State.writeWord]
@[simp] theorem State.writeWord_fault (s : State) (a v : Word) : (s.writeWord a v).fault = s.fault := by simp [State.writeWord]
@[simp] theorem State.writeWord_timing (s : State) (a v : Word) : (s.writeWord a v).timing = s.timing := by simp [State.writeWord]
@[simp] theorem State.writeWord_vblankRequestsIf (s : State) (a v : Word) : (s.writeWord a v).vblankRequestsIf = s.vblankRequestsIf := by simp [State.writeWord]
@[simp] theorem State.writeWord_inputs (s : State) (a v : Word) : (s.writeWord a v).inputs = s.inputs := by simp [State.writeWord]
@[simp] theorem State.writeWord_joypadReads (s : State) (a v : Word) : (s.writeWord a v).joypadReads = s.joypadReads := by simp [State.writeWord]
@[simp] theorem State.writeWord_lastCycles (s : State) (a v : Word) : (s.writeWord a v).lastCycles = s.lastCycles := by simp [State.writeWord]

/-! `push16` -/

@[simp] theorem State.push16_regs (s : State) (v : Word) : (s.push16 v).regs = s.regs := by simp [State.push16]
@[simp] theorem State.push16_flags (s : State) (v : Word) : (s.push16 v).flags = s.flags := by simp [State.push16]
@[simp] theorem State.push16_pc (s : State) (v : Word) : (s.push16 v).pc = s.pc := by simp [State.push16]
@[simp] theorem State.push16_ime (s : State) (v : Word) : (s.push16 v).ime = s.ime := by simp [State.push16]
@[simp] theorem State.push16_eiDelay (s : State) (v : Word) : (s.push16 v).eiDelay = s.eiDelay := by simp [State.push16]
@[simp] theorem State.push16_halted (s : State) (v : Word) : (s.push16 v).halted = s.halted := by simp [State.push16]
@[simp] theorem State.push16_stopped (s : State) (v : Word) : (s.push16 v).stopped = s.stopped := by simp [State.push16]
@[simp] theorem State.push16_fault (s : State) (v : Word) : (s.push16 v).fault = s.fault := by simp [State.push16]
@[simp] theorem State.push16_timing (s : State) (v : Word) : (s.push16 v).timing = s.timing := by simp [State.push16]
@[simp] theorem State.push16_vblankRequestsIf (s : State) (v : Word) : (s.push16 v).vblankRequestsIf = s.vblankRequestsIf := by simp [State.push16]
@[simp] theorem State.push16_inputs (s : State) (v : Word) : (s.push16 v).inputs = s.inputs := by simp [State.push16]
@[simp] theorem State.push16_joypadReads (s : State) (v : Word) : (s.push16 v).joypadReads = s.joypadReads := by simp [State.push16]
@[simp] theorem State.push16_lastCycles (s : State) (v : Word) : (s.push16 v).lastCycles = s.lastCycles := by simp [State.push16]

@[simp] theorem State.push16_sp (s : State) (v : Word) : (s.push16 v).sp = s.sp - 2 := by simp [State.push16]

/-! `afterPop` -/

@[simp] theorem State.afterPop_regs (s : State) : (s.afterPop).regs = s.regs := by simp [State.afterPop]
@[simp] theorem State.afterPop_flags (s : State) : (s.afterPop).flags = s.flags := by simp [State.afterPop]
@[simp] theorem State.afterPop_pc (s : State) : (s.afterPop).pc = s.pc := by simp [State.afterPop]
@[simp] theorem State.afterPop_ime (s : State) : (s.afterPop).ime = s.ime := by simp [State.afterPop]
@[simp] theorem State.afterPop_eiDelay (s : State) : (s.afterPop).eiDelay = s.eiDelay := by simp [State.afterPop]
@[simp] theorem State.afterPop_halted (s : State) : (s.afterPop).halted = s.halted := by simp [State.afterPop]
@[simp] theorem State.afterPop_stopped (s : State) : (s.afterPop).stopped = s.stopped := by simp [State.afterPop]
@[simp] theorem State.afterPop_fault (s : State) : (s.afterPop).fault = s.fault := by simp [State.afterPop]
@[simp] theorem State.afterPop_timing (s : State) : (s.afterPop).timing = s.timing := by simp [State.afterPop]
@[simp] theorem State.afterPop_mem (s : State) : (s.afterPop).mem = s.mem := by simp [State.afterPop]
@[simp] theorem State.afterPop_vblankRequestsIf (s : State) : (s.afterPop).vblankRequestsIf = s.vblankRequestsIf := by simp [State.afterPop]
@[simp] theorem State.afterPop_inputs (s : State) : (s.afterPop).inputs = s.inputs := by simp [State.afterPop]
@[simp] theorem State.afterPop_lastCycles (s : State) : (s.afterPop).lastCycles = s.lastCycles := by simp [State.afterPop]

@[simp] theorem State.afterPop_sp (s : State) : s.afterPop.sp = s.sp + 2 := rfl

/-! `afterFetch` -/

@[simp] theorem State.afterFetch_regs (s : State) : (s.afterFetch).regs = s.regs := by simp [State.afterFetch]
@[simp] theorem State.afterFetch_flags (s : State) : (s.afterFetch).flags = s.flags := by simp [State.afterFetch]
@[simp] theorem State.afterFetch_sp (s : State) : (s.afterFetch).sp = s.sp := by simp [State.afterFetch]
@[simp] theorem State.afterFetch_ime (s : State) : (s.afterFetch).ime = s.ime := by simp [State.afterFetch]
@[simp] theorem State.afterFetch_eiDelay (s : State) : (s.afterFetch).eiDelay = s.eiDelay := by simp [State.afterFetch]
@[simp] theorem State.afterFetch_halted (s : State) : (s.afterFetch).halted = s.halted := by simp [State.afterFetch]
@[simp] theorem State.afterFetch_stopped (s : State) : (s.afterFetch).stopped = s.stopped := by simp [State.afterFetch]
@[simp] theorem State.afterFetch_fault (s : State) : (s.afterFetch).fault = s.fault := by simp [State.afterFetch]
@[simp] theorem State.afterFetch_timing (s : State) : (s.afterFetch).timing = s.timing := by simp [State.afterFetch]
@[simp] theorem State.afterFetch_mem (s : State) : (s.afterFetch).mem = s.mem := by simp [State.afterFetch]
@[simp] theorem State.afterFetch_vblankRequestsIf (s : State) : (s.afterFetch).vblankRequestsIf = s.vblankRequestsIf := by simp [State.afterFetch]
@[simp] theorem State.afterFetch_inputs (s : State) : (s.afterFetch).inputs = s.inputs := by simp [State.afterFetch]
@[simp] theorem State.afterFetch_lastCycles (s : State) : (s.afterFetch).lastCycles = s.lastCycles := by simp [State.afterFetch]

@[simp] theorem State.afterFetch_pc (s : State) : s.afterFetch.pc = s.pc + 1 := rfl

/-! `setIf` -/

@[simp] theorem State.setIf_regs (s : State) (v : Byte) : (s.setIf v).regs = s.regs := rfl
@[simp] theorem State.setIf_flags (s : State) (v : Byte) : (s.setIf v).flags = s.flags := rfl
@[simp] theorem State.setIf_pc (s : State) (v : Byte) : (s.setIf v).pc = s.pc := rfl
@[simp] theorem State.setIf_sp (s : State) (v : Byte) : (s.setIf v).sp = s.sp := rfl
@[simp] theorem State.setIf_ime (s : State) (v : Byte) : (s.setIf v).ime = s.ime := rfl
@[simp] theorem State.setIf_eiDelay (s : State) (v : Byte) : (s.setIf v).eiDelay = s.eiDelay := rfl
@[simp] theorem State.setIf_halted (s : State) (v : Byte) : (s.setIf v).halted = s.halted := rfl
@[simp] theorem State.setIf_stopped (s : State) (v : Byte) : (s.setIf v).stopped = s.stopped := rfl
@[simp] theorem State.setIf_fault (s : State) (v : Byte) : (s.setIf v).fault = s.fault := rfl
@[simp] theorem State.setIf_timing (s : State) (v : Byte) : (s.setIf v).timing = s.timing := rfl
@[simp] theorem State.setIf_mem (s : State) (v : Byte) : (s.setIf v).mem = s.mem.set ifAddr.toNat v := rfl
@[simp] theorem State.setIf_vblankRequestsIf (s : State) (v : Byte) : (s.setIf v).vblankRequestsIf = s.vblankRequestsIf := rfl
@[simp] theorem State.setIf_inputs (s : State) (v : Byte) : (s.setIf v).inputs = s.inputs := rfl
@[simp] theorem State.setIf_joypadReads (s : State) (v : Byte) : (s.setIf v).joypadReads = s.joypadReads := rfl
@[simp] theorem State.setIf_lastCycles (s : State) (v : Byte) : (s.setIf v).lastCycles = s.lastCycles := rfl

/-! `requestInterrupts` -/

@[simp] theorem State.requestInterrupts_regs (s : State) (b : BitVec 5) : (s.requestInterrupts b).regs = s.regs := rfl
@[simp] theorem State.requestInterrupts_flags (s : State) (b : BitVec 5) : (s.requestInterrupts b).flags = s.flags := rfl
@[simp] theorem State.requestInterrupts_pc (s : State) (b : BitVec 5) : (s.requestInterrupts b).pc = s.pc := rfl
@[simp] theorem State.requestInterrupts_sp (s : State) (b : BitVec 5) : (s.requestInterrupts b).sp = s.sp := rfl
@[simp] theorem State.requestInterrupts_ime (s : State) (b : BitVec 5) : (s.requestInterrupts b).ime = s.ime := rfl
@[simp] theorem State.requestInterrupts_eiDelay (s : State) (b : BitVec 5) : (s.requestInterrupts b).eiDelay = s.eiDelay := rfl
@[simp] theorem State.requestInterrupts_halted (s : State) (b : BitVec 5) : (s.requestInterrupts b).halted = s.halted := rfl
@[simp] theorem State.requestInterrupts_stopped (s : State) (b : BitVec 5) : (s.requestInterrupts b).stopped = s.stopped := rfl
@[simp] theorem State.requestInterrupts_fault (s : State) (b : BitVec 5) : (s.requestInterrupts b).fault = s.fault := rfl
@[simp] theorem State.requestInterrupts_timing (s : State) (b : BitVec 5) : (s.requestInterrupts b).timing = s.timing := rfl
@[simp] theorem State.requestInterrupts_vblankRequestsIf (s : State) (b : BitVec 5) : (s.requestInterrupts b).vblankRequestsIf = s.vblankRequestsIf := rfl
@[simp] theorem State.requestInterrupts_inputs (s : State) (b : BitVec 5) : (s.requestInterrupts b).inputs = s.inputs := rfl
@[simp] theorem State.requestInterrupts_joypadReads (s : State) (b : BitVec 5) : (s.requestInterrupts b).joypadReads = s.joypadReads := rfl
@[simp] theorem State.requestInterrupts_lastCycles (s : State) (b : BitVec 5) : (s.requestInterrupts b).lastCycles = s.lastCycles := rfl

/-! `advance` -/

@[simp] theorem State.advance_regs (s : State) (n : Nat) : (s.advance n).regs = s.regs := by unfold State.advance; dsimp only; split <;> rfl
@[simp] theorem State.advance_flags (s : State) (n : Nat) : (s.advance n).flags = s.flags := by unfold State.advance; dsimp only; split <;> rfl
@[simp] theorem State.advance_pc (s : State) (n : Nat) : (s.advance n).pc = s.pc := by unfold State.advance; dsimp only; split <;> rfl
@[simp] theorem State.advance_sp (s : State) (n : Nat) : (s.advance n).sp = s.sp := by unfold State.advance; dsimp only; split <;> rfl
@[simp] theorem State.advance_ime (s : State) (n : Nat) : (s.advance n).ime = s.ime := by unfold State.advance; dsimp only; split <;> rfl
@[simp] theorem State.advance_eiDelay (s : State) (n : Nat) : (s.advance n).eiDelay = s.eiDelay := by unfold State.advance; dsimp only; split <;> rfl
@[simp] theorem State.advance_halted (s : State) (n : Nat) : (s.advance n).halted = s.halted := by unfold State.advance; dsimp only; split <;> rfl
@[simp] theorem State.advance_stopped (s : State) (n : Nat) : (s.advance n).stopped = s.stopped := by unfold State.advance; dsimp only; split <;> rfl
@[simp] theorem State.advance_fault (s : State) (n : Nat) : (s.advance n).fault = s.fault := by unfold State.advance; dsimp only; split <;> rfl
@[simp] theorem State.advance_vblankRequestsIf (s : State) (n : Nat) : (s.advance n).vblankRequestsIf = s.vblankRequestsIf := by unfold State.advance; dsimp only; split <;> rfl
@[simp] theorem State.advance_inputs (s : State) (n : Nat) : (s.advance n).inputs = s.inputs := by unfold State.advance; dsimp only; split <;> rfl
@[simp] theorem State.advance_joypadReads (s : State) (n : Nat) : (s.advance n).joypadReads = s.joypadReads := by unfold State.advance; dsimp only; split <;> rfl
@[simp] theorem State.advance_lastCycles (s : State) (n : Nat) : (s.advance n).lastCycles = s.lastCycles := by unfold State.advance; dsimp only; split <;> rfl

@[simp] theorem State.advance_timing (s : State) (n : Nat) : (s.advance n).timing = s.timing.advance n := by
  unfold State.advance; dsimp only; split <;> rfl

/-! `dispatch` -/

@[simp] theorem State.dispatch_regs (s : State) (k : Nat) : (s.dispatch k).regs = s.regs := by simp [State.dispatch]
@[simp] theorem State.dispatch_flags (s : State) (k : Nat) : (s.dispatch k).flags = s.flags := by simp [State.dispatch]
@[simp] theorem State.dispatch_halted (s : State) (k : Nat) : (s.dispatch k).halted = s.halted := by simp [State.dispatch]
@[simp] theorem State.dispatch_stopped (s : State) (k : Nat) : (s.dispatch k).stopped = s.stopped := by simp [State.dispatch]
@[simp] theorem State.dispatch_fault (s : State) (k : Nat) : (s.dispatch k).fault = s.fault := by simp [State.dispatch]
@[simp] theorem State.dispatch_timing (s : State) (k : Nat) : (s.dispatch k).timing = s.timing := by simp [State.dispatch]
@[simp] theorem State.dispatch_vblankRequestsIf (s : State) (k : Nat) : (s.dispatch k).vblankRequestsIf = s.vblankRequestsIf := by simp [State.dispatch]
@[simp] theorem State.dispatch_inputs (s : State) (k : Nat) : (s.dispatch k).inputs = s.inputs := by simp [State.dispatch]
@[simp] theorem State.dispatch_joypadReads (s : State) (k : Nat) : (s.dispatch k).joypadReads = s.joypadReads := by simp [State.dispatch]

@[simp] theorem State.dispatch_ime (s : State) (k : Nat) : (s.dispatch k).ime = false := by simp [State.dispatch]
@[simp] theorem State.dispatch_eiDelay (s : State) (k : Nat) : (s.dispatch k).eiDelay = false := by
  simp [State.dispatch]
@[simp] theorem State.dispatch_pc (s : State) (k : Nat) : (s.dispatch k).pc = vector k := rfl
@[simp] theorem State.dispatch_sp (s : State) (k : Nat) : (s.dispatch k).sp = s.sp - 2 := by simp [State.dispatch]

/-! Registers -/

@[simp] theorem Regs.get_set_same (g : Regs) (r : Reg8) (v : Byte) : (g.set r v).get r = v := by cases r <;> rfl

theorem Regs.get_set_other (g : Regs) (d r : Reg8) (v : Byte) (h : r ≠ d) : (g.set d v).get r = g.get r := by
  cases d <;> cases r <;> first | rfl | exact absurd rfl h

/-! Halves of a word -/

@[simp] theorem highByte_wordOf (hi lo : Byte) : highByte (wordOf hi lo) = hi := by
  unfold highByte wordOf
  apply BitVec.eq_of_getLsbD_eq
  intro i hi'
  simp only [BitVec.getLsbD_append, BitVec.getLsbD_extractLsb', hi', decide_true, Bool.true_and]
  rw [if_neg (by omega)]
  congr 1; omega

@[simp] theorem lowByte_wordOf (hi lo : Byte) : lowByte (wordOf hi lo) = lo := by
  unfold lowByte wordOf
  apply BitVec.eq_of_getLsbD_eq
  intro i hi'
  simp only [BitVec.getLsbD_append, BitVec.getLsbD_extractLsb', hi', decide_true, Bool.true_and, Nat.zero_add]
  rfl

@[simp] theorem wordOf_halves (w : Word) : wordOf (highByte w) (lowByte w) = w := by
  unfold highByte lowByte wordOf
  apply BitVec.eq_of_getLsbD_eq
  intro i hi'
  simp only [BitVec.getLsbD_append, BitVec.getLsbD_extractLsb']
  split
  · simp_all
  · rename_i h
    have : i - 8 < 8 := by omega
    simp only [this, decide_true, Bool.true_and]
    congr 1; omega

end Sys2Proof.Machine
end

