-- ==== Sys2Proof/Laws/Bus.lean ====
section
/-! SUPPORT. The laws of the bus: reads and writes by the storage cell an address reaches, what a read depends on, and
that every operation keeps the canonical form of memory. -/

namespace Sys2Proof.Machine

/-- The cell a write to an address changes: none where writes are ignored. -/
def storeCell (a : Word) : Option Nat := if region a = .rom0 then none else cellOf a

/-- A write by its cell. -/
theorem State.writeByte_eq (s : State) (a : Word) (v : Byte) :
    s.writeByte a v =
      match storeCell a with
      | some k => { s with mem := s.mem.set k v }
      | none => s := by
  unfold State.writeByte storeCell cellOf
  cases region a <;> simp
  by_cases h : a = lyAddr <;> simp [h]

/-- A read by its cell, away from 0xFF00. -/
theorem State.readByte_eq (s : State) (a : Word) (h : a ≠ joypAddr) :
    s.readByte a =
      match cellOf a with
      | some k => s.mem.get k
      | none => if a = lyAddr then BitVec.ofNat 8 s.timing.scanline else 0#8 := by
  unfold State.readByte cellOf
  have ly : region lyAddr = .io := by decide
  cases hr : region a <;> simp [h]
  all_goals by_cases h2 : a = lyAddr
  all_goals first
    | (subst h2; rw [ly] at hr; simp at hr)
    | simp [h2]
  all_goals simp

/-- A read at 0xFF00 is the host's draw. -/
@[simp] theorem State.readByte_joyp (s : State) : s.readByte joypAddr = Config.joypadInput s.joypadReads := by
  unfold State.readByte
  rw [show region joypAddr = .io from by decide]
  rw [if_neg (by decide), if_pos rfl]

/-- A read depends on memory, the scanline and the count of draws alone. -/
theorem State.readByte_congr {s t : State} (a : Word) (hm : t.mem = s.mem) (hs : t.timing.scanline = s.timing.scanline)
    (hj : t.joypadReads = s.joypadReads) : t.readByte a = s.readByte a := by
  unfold State.readByte
  rw [hm, hs, hj]

/-- Away from 0xFF00 it does not depend on the count of draws. -/
theorem State.readByte_congr_plain {s t : State} {a : Word} (ha : a ≠ joypAddr) (hm : t.mem = s.mem)
    (hs : t.timing.scanline = s.timing.scanline) : t.readByte a = s.readByte a := by
  rw [State.readByte_eq _ _ ha, State.readByte_eq _ _ ha, hm, hs]

/-- The addresses of a region (R51). -/
def Region.holds (r : Region) (n : Nat) : Prop :=
  match r with
  | .ie => n = 0xFFFF
  | .hram => 0xFF80 ≤ n ∧ n < 0xFFFF
  | .io => 0xFF00 ≤ n ∧ n < 0xFF80
  | .unused => 0xFEA0 ≤ n ∧ n < 0xFF00
  | .oam => 0xFE00 ≤ n ∧ n < 0xFEA0
  | .echo => 0xE000 ≤ n ∧ n < 0xFE00
  | .wram => 0xC000 ≤ n ∧ n < 0xE000
  | .eram => 0xA000 ≤ n ∧ n < 0xC000
  | .vram => 0x8000 ≤ n ∧ n < 0xA000
  | .rom1 => 0x4000 ≤ n ∧ n < 0x8000
  | .rom0 => n < 0x4000

/-- An address lies in the region the range checks give. -/
theorem region_holds (a : Word) : (region a).holds a.toNat := by
  have := a.isLt
  unfold region
  dsimp only
  repeat' split
  all_goals simp only [Region.holds]
  all_goals omega

/-- An address in a region's range is in that region. -/
theorem region_eq {a : Word} {r : Region} (h : r.holds a.toNat) : region a = r := by
  have h2 := region_holds a
  generalize region a = q at h2
  cases q <;> cases r <;> first | rfl | (simp only [Region.holds] at h h2; omega)

theorem lyAddr_toNat : lyAddr.toNat = 0xFF44 := rfl

theorem joypAddr_toNat : joypAddr.toNat = 0xFF00 := rfl

theorem eq_lyAddr {a : Word} : a = lyAddr ↔ a.toNat = 0xFF44 :=
  ⟨fun h => h ▸ rfl, fun h => BitVec.eq_of_toNat_eq h⟩

theorem eq_joypAddr {a : Word} : a = joypAddr ↔ a.toNat = 0xFF00 :=
  ⟨fun h => h ▸ rfl, fun h => BitVec.eq_of_toNat_eq h⟩

theorem region_rom {a : Word} (h : a.toNat < 0x8000) : region a = .rom0 ∨ region a = .rom1 := by
  by_cases h2 : a.toNat < 0x4000
  · exact .inl (region_eq h2)
  · exact .inr (region_eq ⟨by omega, h⟩)

/-- The cell an address reaches is its own or, in the echo range, the one 0x2000 lower. -/
theorem cellOf_cases {a : Word} {k : Nat} (h : cellOf a = some k) :
    isCell k = true ∧ (k = a.toNat ∧ region a ≠ .echo ∨ k + 0x2000 = a.toNat ∧ region a = .echo) := by
  have hr := region_holds a
  unfold cellOf at h
  generalize region a = r at *
  cases r <;> simp only [Region.holds] at hr <;> try dsimp only at h
  case io =>
    split at h
    · simp at h
    · rename_i hn
      rw [eq_lyAddr] at hn
      injection h with h
      refine ⟨?_, .inl ⟨h.symm, by simp⟩⟩
      simp only [isCell, Bool.or_eq_true, Bool.and_eq_true, decide_eq_true_eq, bne_iff_ne]
      omega
  case echo =>
    injection h with h
    refine ⟨?_, .inr ⟨by omega, rfl⟩⟩
    simp only [isCell, Bool.or_eq_true, Bool.and_eq_true, decide_eq_true_eq, bne_iff_ne]
    omega
  all_goals first
    | (injection h with h
       refine ⟨?_, .inl ⟨h.symm, by simp⟩⟩
       simp only [isCell, Bool.or_eq_true, Bool.and_eq_true, decide_eq_true_eq, bne_iff_ne]
       omega)
    | simp at h

theorem cellOf_isCell {a : Word} {k : Nat} (h : cellOf a = some k) : isCell k = true := (cellOf_cases h).1

/-- A cell that a write changes lies outside the ROM banks. -/
theorem storeCell_bound {a : Word} {k : Nat} (h : storeCell a = some k) : 0x8000 ≤ k := by
  unfold storeCell at h
  split at h
  · simp at h
  · rename_i hn
    have hr := region_holds a
    obtain ⟨-, ⟨hk, h2⟩ | ⟨hk, h2⟩⟩ := cellOf_cases h
    · unfold cellOf at h
      generalize region a = r at *
      cases r <;> simp only [Region.holds] at hr <;> first | omega | simp_all
    · rw [h2] at hr
      simp only [Region.holds] at hr
      omega

theorem storeCell_isCell {a : Word} {k : Nat} (h : storeCell a = some k) : isCell k = true := by
  unfold storeCell at h
  split at h
  · simp at h
  · exact cellOf_isCell h

theorem storeCell_cellOf {a : Word} {k : Nat} (h : storeCell a = some k) : cellOf a = some k := by
  unfold storeCell at h
  split at h
  · simp at h
  · exact h

theorem plainStorage_storeCell {a : Word} (h : plainStorage a = true) : ∃ k, storeCell a = some k := by
  unfold plainStorage at h
  unfold storeCell cellOf
  cases hr : region a <;> simp_all

theorem plainStorage_ne {a : Word} (h : plainStorage a = true) : a ≠ joypAddr := by
  rintro rfl
  revert h; decide

/-! ## The canonical form -/

/-- A write keeps the canonical form. -/
theorem State.writeByte_wf {s : State} (h : s.mem.wf = true) (a : Word) (v : Byte) :
    (s.writeByte a v).mem.wf = true := by
  rw [State.writeByte_eq]
  cases hc : storeCell a with
  | none => exact h
  | some k => exact Memory.set_wf h v (storeCell_isCell hc)

theorem State.writeWord_wf {s : State} (h : s.mem.wf = true) (a v : Word) : (s.writeWord a v).mem.wf = true :=
  State.writeByte_wf (State.writeByte_wf h _ _) _ _

theorem State.push16_wf {s : State} (h : s.mem.wf = true) (v : Word) : (s.push16 v).mem.wf = true :=
  State.writeWord_wf (s := { s with sp := s.sp - 2 }) h _ _

theorem State.setIf_wf {s : State} (h : s.mem.wf = true) (v : Byte) : (s.setIf v).mem.wf = true :=
  Memory.set_wf h v (by decide)

theorem State.requestInterrupts_wf {s : State} (h : s.mem.wf = true) (b : BitVec 5) :
    (s.requestInterrupts b).mem.wf = true := State.setIf_wf h _

theorem State.dispatch_wf {s : State} (h : s.mem.wf = true) (k : Nat) : (s.dispatch k).mem.wf = true := by
  unfold State.dispatch
  exact State.push16_wf
    (s := { s.setIf (s.ifl &&& ~~~(1#8 <<< k)) with ime := false, eiDelay := false }) (State.setIf_wf h _) _

theorem State.advance_wf {s : State} (h : s.mem.wf = true) (n : Nat) : (s.advance n).mem.wf = true := by
  unfold State.advance
  dsimp only
  split
  · exact State.requestInterrupts_wf h _
  · exact h

theorem State.environment_wf {s : State} (h : s.mem.wf = true) : s.environment.mem.wf = true := by
  unfold State.environment
  split
  · exact h
  · exact State.requestInterrupts_wf h _

/-! ## Reads after writes -/

/-- In canonical memory a write to plain storage is read back at every address that reaches the byte. -/
theorem State.readByte_writeByte_same {s : State} (hw : s.mem.wf = true) {a b : Word} (v : Byte)
    (ha : plainStorage a = true) (h : sameByte b a = true) : (s.writeByte a v).readByte b = v := by
  obtain ⟨k, hk⟩ := plainStorage_storeCell ha
  have hca := storeCell_cellOf hk
  simp only [sameByte, Bool.and_eq_true, beq_iff_eq] at h
  have hcb : cellOf b = some k := by rw [h.2, hca]
  have hj : b ≠ joypAddr := by
    intro hb
    have h1 := (cellOf_cases hca).2
    have h2 := (cellOf_cases hcb).2
    have hr := region_holds b
    have hra := region_holds a
    have hn := plainStorage_ne ha
    rw [ne_eq, eq_joypAddr] at hn
    rw [eq_joypAddr] at hb
    obtain ⟨h2, -⟩ | ⟨-, h3⟩ := h2
    · obtain ⟨h1, -⟩ | ⟨h1, he⟩ := h1
      · omega
      · rw [he] at hra
        simp only [Region.holds] at hra
        omega
    · rw [h3] at hr
      simp only [Region.holds] at hr
      omega
  rw [State.readByte_eq _ _ hj, hcb, State.writeByte_eq, hk]
  exact Memory.get_set_same hw k v

/-- A read at an address that reaches another byte is unchanged by a write. -/
theorem State.readByte_writeByte_other (s : State) {a b : Word} (v : Byte) (h : sameByte b a = false) :
    (s.writeByte a v).readByte b = s.readByte b := by
  by_cases hj : b = joypAddr
  · subst hj; simp
  rw [State.readByte_eq _ _ hj, State.readByte_eq _ _ hj, State.writeByte_timing]
  cases hb : cellOf b with
  | none => rfl
  | some j =>
    dsimp only
    rw [State.writeByte_eq]
    cases hc : storeCell a with
    | none => rfl
    | some k =>
      refine Memory.get_set_other _ _ ?_
      rintro rfl
      simp [sameByte, hb, storeCell_cellOf hc] at h

/-- A write leaves the ROM banks' reads alone. -/
theorem State.readByte_writeByte_rom (s : State) (a : Word) (v : Byte) {b : Word} (hb : b.toNat < 0x8000) :
    (s.writeByte a v).readByte b = s.readByte b := by
  rw [State.writeByte_eq]
  cases hc : storeCell a with
  | none => rfl
  | some k =>
    have hk := storeCell_bound hc
    unfold State.readByte
    obtain h | h := region_rom hb <;> rw [h]
    exact Memory.get_set_other _ _ (by omega)

/-- Setting IF leaves the ROM banks' reads alone. -/
theorem State.readByte_setIf_rom (s : State) (v : Byte) {b : Word} (hb : b.toNat < 0x8000) :
    (s.setIf v).readByte b = s.readByte b := by
  unfold State.readByte
  obtain h | h := region_rom hb <;> rw [h]
  exact Memory.get_set_other _ _ (by show b.toNat ≠ 0xFF0F; omega)

/-- A read in the ROM banks depends on memory alone. -/
theorem State.readByte_congr_rom {s t : State} {a : Word} (ha : a.toNat < 0x8000) (hm : t.mem = s.mem) :
    t.readByte a = s.readByte a := by
  unfold State.readByte
  obtain h | h := region_rom ha <;> rw [h]
  rw [hm]

end Sys2Proof.Machine
end

