-- ==== Sys2Proof/Laws/Decode.lean ====
section
/-! SUPPORT. The tables and the encoder agree slot by slot: whatever a slot selects encodes to the bytes that select it. -/

namespace Sys2Proof

/-- What a slot of the primary table selects encodes to that slot's byte and the operand bytes. -/
def Slot (b0 : Byte) (e : Entry) : Prop :=
  match e with
  | .op i => encode i = [b0]
  | .imm8 f => ∀ b, encode (f b) = [b0, b]
  | .imm16 f => ∀ w, encode (f w) = [b0, lowByte w, highByte w]
  | .extended => b0 = 0xCB#8

/-- The slots of a row from byte `n` on. -/
def slotsFrom (n : Nat) (row : List Entry) : Prop :=
  match row with
  | [] => True
  | e :: rest => Slot (BitVec.ofNat 8 n) e ∧ slotsFrom (n + 1) rest

/-- The slots of an extended row from byte `n` on. -/
def extendedFrom (n : Nat) (row : List Instr) : Prop :=
  match row with
  | [] => True
  | i :: rest => encode i = [0xCB#8, BitVec.ofNat 8 n] ∧ extendedFrom (n + 1) rest

theorem slotsFrom_getD (row : List Entry) (n k : Nat) (d : Entry) (h : slotsFrom n row) (hk : k < row.length) :
    Slot (BitVec.ofNat 8 (n + k)) (row.getD k d) := by
  induction row generalizing n k with
  | nil => simp at hk
  | cons e rest ih =>
    cases k with
    | zero => exact h.1
    | succ k =>
      have := ih (n + 1) k h.2 (by simpa using hk)
      rwa [show n + (k + 1) = n + 1 + k from by omega]

theorem extendedFrom_getD (row : List Instr) (n k : Nat) (d : Instr) (h : extendedFrom n row) (hk : k < row.length) :
    encode (row.getD k d) = [0xCB#8, BitVec.ofNat 8 (n + k)] := by
  induction row generalizing n k with
  | nil => simp at hk
  | cons e rest ih =>
    cases k with
    | zero => exact h.1
    | succ k =>
      have := ih (n + 1) k h.2 (by simpa using hk)
      rwa [show n + (k + 1) = n + 1 + k from by omega]

theorem slots_row0 : slotsFrom 0x00 primaryRow0 :=
  ⟨rfl, fun _ => rfl, rfl, rfl, rfl, rfl, fun _ => rfl, rfl, fun _ => rfl, rfl, rfl, rfl, rfl, rfl, fun _ => rfl,
    rfl, trivial⟩

theorem slots_row1 : slotsFrom 0x10 primaryRow1 :=
  ⟨fun _ => rfl, fun _ => rfl, rfl, rfl, rfl, rfl, fun _ => rfl, rfl, fun _ => rfl, rfl, rfl, rfl, rfl, rfl,
    fun _ => rfl, rfl, trivial⟩

theorem slots_row2 : slotsFrom 0x20 primaryRow2 :=
  ⟨fun _ => rfl, fun _ => rfl, rfl, rfl, rfl, rfl, fun _ => rfl, rfl, fun _ => rfl, rfl, rfl, rfl, rfl, rfl,
    fun _ => rfl, rfl, trivial⟩

theorem slots_row3 : slotsFrom 0x30 primaryRow3 :=
  ⟨fun _ => rfl, fun _ => rfl, rfl, rfl, rfl, rfl, fun _ => rfl, rfl, fun _ => rfl, rfl, rfl, rfl, rfl, rfl,
    fun _ => rfl, rfl, trivial⟩

theorem slots_row4 : slotsFrom 0x40 primaryRow4 :=
  ⟨rfl, rfl, rfl, rfl, rfl, rfl, rfl, rfl, rfl, rfl, rfl, rfl, rfl, rfl, rfl, rfl, trivial⟩

theorem slots_row5 : slotsFrom 0x50 primaryRow5 :=
  ⟨rfl, rfl, rfl, rfl, rfl, rfl, rfl, rfl, rfl, rfl, rfl, rfl, rfl, rfl, rfl, rfl, trivial⟩

theorem slots_row6 : slotsFrom 0x60 primaryRow6 :=
  ⟨rfl, rfl, rfl, rfl, rfl, rfl, rfl, rfl, rfl, rfl, rfl, rfl, rfl, rfl, rfl, rfl, trivial⟩

theorem slots_row7 : slotsFrom 0x70 primaryRow7 :=
  ⟨rfl, rfl, rfl, rfl, rfl, rfl, rfl, rfl, rfl, rfl, rfl, rfl, rfl, rfl, rfl, rfl, trivial⟩

theorem slots_row8 : slotsFrom 0x80 primaryRow8 :=
  ⟨rfl, rfl, rfl, rfl, rfl, rfl, rfl, rfl, rfl, rfl, rfl, rfl, rfl, rfl, rfl, rfl, trivial⟩

theorem slots_row9 : slotsFrom 0x90 primaryRow9 :=
  ⟨rfl, rfl, rfl, rfl, rfl, rfl, rfl, rfl, rfl, rfl, rfl, rfl, rfl, rfl, rfl, rfl, trivial⟩

theorem slots_rowA : slotsFrom 0xA0 primaryRowA :=
  ⟨rfl, rfl, rfl, rfl, rfl, rfl, rfl, rfl, rfl, rfl, rfl, rfl, rfl, rfl, rfl, rfl, trivial⟩

theorem slots_rowB : slotsFrom 0xB0 primaryRowB :=
  ⟨rfl, rfl, rfl, rfl, rfl, rfl, rfl, rfl, rfl, rfl, rfl, rfl, rfl, rfl, rfl, rfl, trivial⟩

theorem slots_rowC : slotsFrom 0xC0 primaryRowC :=
  ⟨rfl, rfl, fun _ => rfl, fun _ => rfl, fun _ => rfl, rfl, fun _ => rfl, rfl, rfl, rfl, fun _ => rfl, rfl,
    fun _ => rfl, fun _ => rfl, fun _ => rfl, rfl, trivial⟩

theorem slots_rowD : slotsFrom 0xD0 primaryRowD :=
  ⟨rfl, rfl, fun _ => rfl, rfl, fun _ => rfl, rfl, fun _ => rfl, rfl, rfl, rfl, fun _ => rfl, rfl, fun _ => rfl, rfl,
    fun _ => rfl, rfl, trivial⟩

theorem slots_rowE : slotsFrom 0xE0 primaryRowE :=
  ⟨fun _ => rfl, rfl, rfl, rfl, rfl, rfl, fun _ => rfl, rfl, fun _ => rfl, rfl, fun _ => rfl, rfl, rfl, rfl,
    fun _ => rfl, rfl, trivial⟩

theorem slots_rowF : slotsFrom 0xF0 primaryRowF :=
  ⟨fun _ => rfl, rfl, rfl, rfl, rfl, rfl, fun _ => rfl, rfl, fun _ => rfl, rfl, fun _ => rfl, rfl, rfl, rfl,
    fun _ => rfl, rfl, trivial⟩

theorem extended_row0 : extendedFrom 0x00 extendedRow0 :=
  ⟨rfl, rfl, rfl, rfl, rfl, rfl, rfl, rfl, rfl, rfl, rfl, rfl, rfl, rfl, rfl, rfl, trivial⟩

theorem extended_row1 : extendedFrom 0x10 extendedRow1 :=
  ⟨rfl, rfl, rfl, rfl, rfl, rfl, rfl, rfl, rfl, rfl, rfl, rfl, rfl, rfl, rfl, rfl, trivial⟩

theorem extended_row2 : extendedFrom 0x20 extendedRow2 :=
  ⟨rfl, rfl, rfl, rfl, rfl, rfl, rfl, rfl, rfl, rfl, rfl, rfl, rfl, rfl, rfl, rfl, trivial⟩

theorem extended_row3 : extendedFrom 0x30 extendedRow3 :=
  ⟨rfl, rfl, rfl, rfl, rfl, rfl, rfl, rfl, rfl, rfl, rfl, rfl, rfl, rfl, rfl, rfl, trivial⟩

theorem extended_row4 : extendedFrom 0x40 extendedRow4 :=
  ⟨rfl, rfl, rfl, rfl, rfl, rfl, rfl, rfl, rfl, rfl, rfl, rfl, rfl, rfl, rfl, rfl, trivial⟩

theorem extended_row5 : extendedFrom 0x50 extendedRow5 :=
  ⟨rfl, rfl, rfl, rfl, rfl, rfl, rfl, rfl, rfl, rfl, rfl, rfl, rfl, rfl, rfl, rfl, trivial⟩

theorem extended_row6 : extendedFrom 0x60 extendedRow6 :=
  ⟨rfl, rfl, rfl, rfl, rfl, rfl, rfl, rfl, rfl, rfl, rfl, rfl, rfl, rfl, rfl, rfl, trivial⟩

theorem extended_row7 : extendedFrom 0x70 extendedRow7 :=
  ⟨rfl, rfl, rfl, rfl, rfl, rfl, rfl, rfl, rfl, rfl, rfl, rfl, rfl, rfl, rfl, rfl, trivial⟩

theorem extended_row8 : extendedFrom 0x80 extendedRow8 :=
  ⟨rfl, rfl, rfl, rfl, rfl, rfl, rfl, rfl, rfl, rfl, rfl, rfl, rfl, rfl, rfl, rfl, trivial⟩

theorem extended_row9 : extendedFrom 0x90 extendedRow9 :=
  ⟨rfl, rfl, rfl, rfl, rfl, rfl, rfl, rfl, rfl, rfl, rfl, rfl, rfl, rfl, rfl, rfl, trivial⟩

theorem extended_rowA : extendedFrom 0xA0 extendedRowA :=
  ⟨rfl, rfl, rfl, rfl, rfl, rfl, rfl, rfl, rfl, rfl, rfl, rfl, rfl, rfl, rfl, rfl, trivial⟩

theorem extended_rowB : extendedFrom 0xB0 extendedRowB :=
  ⟨rfl, rfl, rfl, rfl, rfl, rfl, rfl, rfl, rfl, rfl, rfl, rfl, rfl, rfl, rfl, rfl, trivial⟩

theorem extended_rowC : extendedFrom 0xC0 extendedRowC :=
  ⟨rfl, rfl, rfl, rfl, rfl, rfl, rfl, rfl, rfl, rfl, rfl, rfl, rfl, rfl, rfl, rfl, trivial⟩

theorem extended_rowD : extendedFrom 0xD0 extendedRowD :=
  ⟨rfl, rfl, rfl, rfl, rfl, rfl, rfl, rfl, rfl, rfl, rfl, rfl, rfl, rfl, rfl, rfl, trivial⟩

theorem extended_rowE : extendedFrom 0xE0 extendedRowE :=
  ⟨rfl, rfl, rfl, rfl, rfl, rfl, rfl, rfl, rfl, rfl, rfl, rfl, rfl, rfl, rfl, rfl, trivial⟩

theorem extended_rowF : extendedFrom 0xF0 extendedRowF :=
  ⟨rfl, rfl, rfl, rfl, rfl, rfl, rfl, rfl, rfl, rfl, rfl, rfl, rfl, rfl, rfl, rfl, trivial⟩

/-- The slot of every first byte. -/
theorem primary_slot (b0 : Byte) : Slot b0 (primary b0) := by
  have hb := b0.isLt
  have hl : b0.toNat % 16 < 16 := by omega
  have hh : b0.toNat / 16 < 16 := by omega
  have e : b0 = BitVec.ofNat 8 (16 * (b0.toNat / 16) + b0.toNat % 16) := by
    rw [Nat.div_add_mod]; simp
  unfold primary
  generalize b0.toNat / 16 = h at *
  generalize b0.toNat % 16 = l at *
  subst e
  interval_cases h
  · exact slotsFrom_getD primaryRow0 0x00 _ _ slots_row0 hl
  · exact slotsFrom_getD primaryRow1 0x10 _ _ slots_row1 hl
  · exact slotsFrom_getD primaryRow2 0x20 _ _ slots_row2 hl
  · exact slotsFrom_getD primaryRow3 0x30 _ _ slots_row3 hl
  · exact slotsFrom_getD primaryRow4 0x40 _ _ slots_row4 hl
  · exact slotsFrom_getD primaryRow5 0x50 _ _ slots_row5 hl
  · exact slotsFrom_getD primaryRow6 0x60 _ _ slots_row6 hl
  · exact slotsFrom_getD primaryRow7 0x70 _ _ slots_row7 hl
  · exact slotsFrom_getD primaryRow8 0x80 _ _ slots_row8 hl
  · exact slotsFrom_getD primaryRow9 0x90 _ _ slots_row9 hl
  · exact slotsFrom_getD primaryRowA 0xA0 _ _ slots_rowA hl
  · exact slotsFrom_getD primaryRowB 0xB0 _ _ slots_rowB hl
  · exact slotsFrom_getD primaryRowC 0xC0 _ _ slots_rowC hl
  · exact slotsFrom_getD primaryRowD 0xD0 _ _ slots_rowD hl
  · exact slotsFrom_getD primaryRowE 0xE0 _ _ slots_rowE hl
  · exact slotsFrom_getD primaryRowF 0xF0 _ _ slots_rowF hl

/-- The slot of every byte after 0xCB. -/
theorem extended_slot (b1 : Byte) : encode (extended b1) = [0xCB#8, b1] := by
  have hb := b1.isLt
  have hl : b1.toNat % 16 < 16 := by omega
  have hh : b1.toNat / 16 < 16 := by omega
  have e : b1 = BitVec.ofNat 8 (16 * (b1.toNat / 16) + b1.toNat % 16) := by
    rw [Nat.div_add_mod]; simp
  unfold extended
  generalize b1.toNat / 16 = h at *
  generalize b1.toNat % 16 = l at *
  subst e
  interval_cases h
  · exact extendedFrom_getD extendedRow0 0x00 _ _ extended_row0 hl
  · exact extendedFrom_getD extendedRow1 0x10 _ _ extended_row1 hl
  · exact extendedFrom_getD extendedRow2 0x20 _ _ extended_row2 hl
  · exact extendedFrom_getD extendedRow3 0x30 _ _ extended_row3 hl
  · exact extendedFrom_getD extendedRow4 0x40 _ _ extended_row4 hl
  · exact extendedFrom_getD extendedRow5 0x50 _ _ extended_row5 hl
  · exact extendedFrom_getD extendedRow6 0x60 _ _ extended_row6 hl
  · exact extendedFrom_getD extendedRow7 0x70 _ _ extended_row7 hl
  · exact extendedFrom_getD extendedRow8 0x80 _ _ extended_row8 hl
  · exact extendedFrom_getD extendedRow9 0x90 _ _ extended_row9 hl
  · exact extendedFrom_getD extendedRowA 0xA0 _ _ extended_rowA hl
  · exact extendedFrom_getD extendedRowB 0xB0 _ _ extended_rowB hl
  · exact extendedFrom_getD extendedRowC 0xC0 _ _ extended_rowC hl
  · exact extendedFrom_getD extendedRowD 0xD0 _ _ extended_rowD hl
  · exact extendedFrom_getD extendedRowE 0xE0 _ _ extended_rowE hl
  · exact extendedFrom_getD extendedRowF 0xF0 _ _ extended_rowF hl

/-- The byte 0xCB and no other leads to the extended table. -/
theorem primary_eq_extended {b0 : Byte} (h : primary b0 = .extended) : b0 = 0xCB#8 := by
  have := primary_slot b0
  rwa [h] at this

end Sys2Proof
end

