-- ==== Sys2Proof/Laws/Exec.lean ====
section
/-! SUPPORT. What `exec` answers, once for every form of instruction: always a next state, `Form.after`. Later proofs
take cases on the form, not on the 511 rows. -/

namespace Sys2Proof

open Sys2Proof.Machine

/-- The state with the returned count written. -/
def Machine.State.counted (n : Nat) (s : State) : State := { s with lastCycles := some n }

/-- A register replaced by a function of it and the flags. -/
def Machine.State.regUpdated (f : Byte → Flags → Byte × Flags) (r : Reg8) (s : State) : State :=
  { s.setReg r (f (s.reg r) s.flags).1 with flags := (f (s.reg r) s.flags).2 }

/-- The byte at HL replaced by a function of it and the flags. -/
def Machine.State.memUpdated (f : Byte → Flags → Byte × Flags) (s : State) : State :=
  { (s.afterRead s.hl).writeByte s.hl (f (s.readByte s.hl) s.flags).1 with flags := (f (s.readByte s.hl) s.flags).2 }

/-- A and the flags replaced. -/
def Machine.State.withA (x : Byte × Flags) (s : State) : State :=
  { s with regs := { s.regs with a := x.1 }, flags := x.2 }

/-- PC_next pushed and PC written. -/
def Machine.State.called (target : Word) (s : State) : State := { s.push16 s.pc with pc := target }

/-- PC popped. -/
def Machine.State.returned (s : State) : State := { s.afterPop with pc := s.popValue }

/-- The state an instruction of this form leaves, by the shared operations of its meaning. -/
def Form.after (f : Form) (s : State) : State :=
  match f with
  | .ldRegReg d r => (s.setReg d (s.reg r)).counted 4
  | .ldRegHL d => ((s.afterRead s.hl).setReg d (s.readByte s.hl)).counted 8
  | .ldHLReg r => (s.writeByte s.hl (s.reg r)).counted 8
  | .ldRegImm d d8 => (s.setReg d d8).counted 8
  | .ldHLImm d8 => (s.writeByte s.hl d8).counted 12
  | .ldABC => ((s.afterRead s.bc).setReg .A (s.readByte s.bc)).counted 8
  | .ldADE => ((s.afterRead s.de).setReg .A (s.readByte s.de)).counted 8
  | .ldBCA => (s.writeByte s.bc s.regs.a).counted 8
  | .ldDEA => (s.writeByte s.de s.regs.a).counted 8
  | .ldHLIncA => ((s.writeByte s.hl s.regs.a).setHL (s.hl + 1)).counted 8
  | .ldHLDecA => ((s.writeByte s.hl s.regs.a).setHL (s.hl - 1)).counted 8
  | .ldAHLInc => (((s.afterRead s.hl).setReg .A (s.readByte s.hl)).setHL (s.hl + 1)).counted 8
  | .ldAHLDec => (((s.afterRead s.hl).setReg .A (s.readByte s.hl)).setHL (s.hl - 1)).counted 8
  | .ldAddrA a16 => (s.writeByte a16 s.regs.a).counted 16
  | .ldAAddr a16 => ((s.afterRead a16).setReg .A (s.readByte a16)).counted 16
  | .ldhAddrA a8 => (s.writeByte (highPage a8) s.regs.a).counted 12
  | .ldhAAddr a8 => ((s.afterRead (highPage a8)).setReg .A (s.readByte (highPage a8))).counted 12
  | .ldCA => (s.writeByte (highPage s.regs.c) s.regs.a).counted 8
  | .ldAC => ((s.afterRead (highPage s.regs.c)).setReg .A (s.readByte (highPage s.regs.c))).counted 8
  | .ldPairImm p d16 => (s.setPair p d16).counted 12
  | .ldAddrSP a16 => (s.writeWord a16 s.sp).counted 20
  | .ldSPHL => State.counted 8 { s with sp := s.hl }
  | .push p => (s.push16 (s.stackPair p)).counted 16
  | .pop p => (s.afterPop.setStackPair p s.popValue).counted 12
  | .aluReg op r => (s.withA (alu op s.regs.a (s.reg r) s.flags.c)).counted 4
  | .aluHL op => ((s.afterRead s.hl).withA (alu op s.regs.a (s.readByte s.hl) s.flags.c)).counted 8
  | .aluImm op d8 => (s.withA (alu op s.regs.a d8 s.flags.c)).counted 8
  | .incReg r => (s.regUpdated inc8 r).counted 4
  | .incHL => (s.memUpdated inc8).counted 12
  | .decReg r => (s.regUpdated dec8 r).counted 4
  | .decHL => (s.memUpdated dec8).counted 12
  | .addHL p =>
    State.counted 8 { s.setHL (add16 s.hl (s.pair p) s.flags).1 with flags := (add16 s.hl (s.pair p) s.flags).2 }
  | .incPair p => (s.setPair p (s.pair p + 1)).counted 8
  | .decPair p => (s.setPair p (s.pair p - 1)).counted 8
  | .addSP e8 => State.counted 16 { s with sp := (addSPe8 s.sp e8).1, flags := (addSPe8 s.sp e8).2 }
  | .ldHLSP e8 => State.counted 12 { s.setHL (addSPe8 s.sp e8).1 with flags := (addSPe8 s.sp e8).2 }
  | .rlca => (s.withA (rotateAccFlags .RLC s.regs.a s.flags)).counted 4
  | .rrca => (s.withA (rotateAccFlags .RRC s.regs.a s.flags)).counted 4
  | .rla => (s.withA (rotateAccFlags .RL s.regs.a s.flags)).counted 4
  | .rra => (s.withA (rotateAccFlags .RR s.regs.a s.flags)).counted 4
  | .rotReg op r => (s.regUpdated (rotateFlags op) r).counted 8
  | .rotHL op => (s.memUpdated (rotateFlags op)).counted 16
  | .bitReg b r => State.counted 8 { s with flags := bitFlags b (s.reg r) s.flags }
  | .bitHL b => State.counted 12 { s.afterRead s.hl with flags := bitFlags b (s.readByte s.hl) s.flags }
  | .resReg b r => (s.regUpdated (fun v f => (resetBit b v, f)) r).counted 8
  | .resHL b => (s.memUpdated fun v f => (resetBit b v, f)).counted 16
  | .setReg b r => (s.regUpdated (fun v f => (setBit b v, f)) r).counted 8
  | .setHL b => (s.memUpdated fun v f => (setBit b v, f)).counted 16
  | .jp a16 => State.counted 16 { s with pc := a16 }
  | .jpCond cc a16 => if s.flags.holds cc then State.counted 16 { s with pc := a16 } else s.counted 12
  | .jpHL => State.counted 4 { s with pc := s.hl }
  | .jr e8 => State.counted 12 { s with pc := s.pc + sext16 e8 }
  | .jrCond cc e8 => if s.flags.holds cc then State.counted 12 { s with pc := s.pc + sext16 e8 } else s.counted 8
  | .call a16 => (s.called a16).counted 24
  | .callCond cc a16 => if s.flags.holds cc then (s.called a16).counted 24 else s.counted 12
  | .ret => s.returned.counted 16
  | .retCond cc => if s.flags.holds cc then s.returned.counted 20 else s.counted 8
  | .reti => State.counted 16 { s.returned with ime := true }
  | .rst y => (s.called (BitVec.ofNat 16 (8 * y.toNat))).counted 16
  | .nop => s.counted 4
  | .daa => (s.withA (daa8 s.regs.a s.flags)).counted 4
  | .cpl => State.counted 4 { s with regs := { s.regs with a := ~~~s.regs.a }, flags := cplFlags s.flags }
  | .scf => State.counted 4 { s with flags := scfFlags s.flags }
  | .ccf => State.counted 4 { s with flags := ccfFlags s.flags }
  | .di => State.counted 4 { s with ime := false, eiDelay := false }
  | .ei => State.counted 4 { s with eiDelay := true }
  | .halt => State.counted 4 { s with halted := true }
  | .stop _ => State.counted 4 { s with stopped := true }
  | .illegal k => s.raiseIllegal k.byte

theorem aluMemory_eq (op : AluOp) (s : State) : aluMemory op s = .next ((Form.aluHL op).after s) := by
  by_cases h : s.hl = joypAddr <;> simp [aluMemory, aluValue, State.finish, Form.after, State.afterRead, h] <;> rfl

theorem jumpToIf_eq (cc : Cond) (a16 : Word) (s : State) :
    jumpToIf cc a16 s = .next ((Form.jpCond cc a16).after s) := by
  cases h : s.flags.holds cc <;> simp [jumpToIf, Form.after, h] <;> rfl

theorem jumpByIf_eq (cc : Cond) (e8 : Byte) (s : State) : jumpByIf cc e8 s = .next ((Form.jrCond cc e8).after s) := by
  cases h : s.flags.holds cc <;> simp [jumpByIf, Form.after, h] <;> rfl

theorem callToIf_eq (cc : Cond) (a16 : Word) (s : State) :
    callToIf cc a16 s = .next ((Form.callCond cc a16).after s) := by
  cases h : s.flags.holds cc <;> simp [callToIf, Form.after, h] <;> rfl

theorem returnFromIf_eq (cc : Cond) (s : State) : returnFromIf cc s = .next ((Form.retCond cc).after s) := by
  cases h : s.flags.holds cc <;> simp [returnFromIf, Form.after, h] <;> rfl

/-- `exec` of any instruction in any state answers the next state of its form. -/
theorem exec_eq (i : Instr) (s : State) : exec i s = .next (i.form.after s) := by
  cases i
  all_goals first
    | rfl
    | exact aluMemory_eq _ s
    | exact jumpToIf_eq _ _ s
    | exact jumpByIf_eq _ _ s
    | exact callToIf_eq _ _ s
    | exact returnFromIf_eq _ s

/-- `exec` of the instruction of a form. -/
theorem exec_ofForm (f : Form) (s : State) : exec (.ofForm f) s = .next (f.after s) := by
  rw [exec_eq]
  congr 2
  cases f with
  | ldRegReg d r => cases d <;> cases r <;> rfl
  | aluReg d r => cases d <;> cases r <;> rfl
  | rotReg d r => cases d <;> cases r <;> rfl
  | bitReg d r => cases d <;> cases r <;> rfl
  | resReg d r => cases d <;> cases r <;> rfl
  | setReg d r => cases d <;> cases r <;> rfl
  | _ => first | rfl | (rename_i x; cases x <;> rfl) | (rename_i x y; cases x <;> rfl)

end Sys2Proof
end

