-- ==== Sys2Proof/Laws/PerInstr.lean ====
section
/-! SUPPORT. One lemma for each constructor of Instr: its encoding has the length its first byte gives (R97), and its
bytes, whatever follows them, begin that instruction (R90, R93, R94). -/

namespace Sys2Proof.Laws.Encoding

/-- The encoding has the length its first byte gives, and three bytes that begin with it decode to the instruction. -/
def Statement (i : Instr) : Prop :=
  (encode i).length = instrLength ((encode i).getD 0 0) ∧
    ∀ rest : List Byte,
      decodeBytes ((encode i).getD 0 0) ((encode i ++ rest).getD 1 0) ((encode i ++ rest).getD 2 0) = i

/-- A slot with no operand. -/
theorem of_op {i : Instr} (b0 : Byte) (he : encode i = [b0]) (hp : primary b0 = .op i) : Statement i := by
  simp [Statement, he, instrLength, decodeBytes, hp]

/-- A slot with one operand byte. -/
theorem of_imm8 {f : Byte → Instr} (b0 b : Byte) (he : encode (f b) = [b0, b]) (hp : primary b0 = .imm8 f) :
    Statement (f b) := by
  simp [Statement, he, instrLength, decodeBytes, hp]

/-- A slot with two operand bytes. -/
theorem of_imm16 {f : Word → Instr} (b0 : Byte) (w : Word) (he : encode (f w) = [b0, lowByte w, highByte w])
    (hp : primary b0 = .imm16 f) : Statement (f w) := by
  simp [Statement, he, instrLength, decodeBytes, hp]

/-- A slot of the extended map. -/
theorem of_extended {i : Instr} (b1 : Byte) (he : encode i = [0xCB#8, b1]) (hx : extended b1 = i) : Statement i := by
  have hp : primary 0xCB#8 = .extended := rfl
  simp [Statement, he, instrLength, decodeBytes, hp, hx]

theorem nop : Statement .nop := of_op 0x00#8 rfl rfl
theorem ld_BC_d16 (d16 : Word) : Statement (.ld_BC_d16 d16) := of_imm16 0x01#8 d16 rfl rfl
theorem ld_mBC_A : Statement .ld_mBC_A := of_op 0x02#8 rfl rfl
theorem inc_BC : Statement .inc_BC := of_op 0x03#8 rfl rfl
theorem inc_B : Statement .inc_B := of_op 0x04#8 rfl rfl
theorem dec_B : Statement .dec_B := of_op 0x05#8 rfl rfl
theorem ld_B_d8 (d8 : Byte) : Statement (.ld_B_d8 d8) := of_imm8 0x06#8 d8 rfl rfl
theorem rlca : Statement .rlca := of_op 0x07#8 rfl rfl
theorem ld_ma16_SP (a16 : Word) : Statement (.ld_ma16_SP a16) := of_imm16 0x08#8 a16 rfl rfl
theorem add_HL_BC : Statement .add_HL_BC := of_op 0x09#8 rfl rfl
theorem ld_A_mBC : Statement .ld_A_mBC := of_op 0x0A#8 rfl rfl
theorem dec_BC : Statement .dec_BC := of_op 0x0B#8 rfl rfl
theorem inc_C : Statement .inc_C := of_op 0x0C#8 rfl rfl
theorem dec_C : Statement .dec_C := of_op 0x0D#8 rfl rfl
theorem ld_C_d8 (d8 : Byte) : Statement (.ld_C_d8 d8) := of_imm8 0x0E#8 d8 rfl rfl
theorem rrca : Statement .rrca := of_op 0x0F#8 rfl rfl
theorem stop (ignored : Byte) : Statement (.stop ignored) := of_imm8 0x10#8 ignored rfl rfl
theorem ld_DE_d16 (d16 : Word) : Statement (.ld_DE_d16 d16) := of_imm16 0x11#8 d16 rfl rfl
theorem ld_mDE_A : Statement .ld_mDE_A := of_op 0x12#8 rfl rfl
theorem inc_DE : Statement .inc_DE := of_op 0x13#8 rfl rfl
theorem inc_D : Statement .inc_D := of_op 0x14#8 rfl rfl
theorem dec_D : Statement .dec_D := of_op 0x15#8 rfl rfl
theorem ld_D_d8 (d8 : Byte) : Statement (.ld_D_d8 d8) := of_imm8 0x16#8 d8 rfl rfl
theorem rla : Statement .rla := of_op 0x17#8 rfl rfl
theorem jr_e8 (e8 : Byte) : Statement (.jr_e8 e8) := of_imm8 0x18#8 e8 rfl rfl
theorem add_HL_DE : Statement .add_HL_DE := of_op 0x19#8 rfl rfl
theorem ld_A_mDE : Statement .ld_A_mDE := of_op 0x1A#8 rfl rfl
theorem dec_DE : Statement .dec_DE := of_op 0x1B#8 rfl rfl
theorem inc_E : Statement .inc_E := of_op 0x1C#8 rfl rfl
theorem dec_E : Statement .dec_E := of_op 0x1D#8 rfl rfl
theorem ld_E_d8 (d8 : Byte) : Statement (.ld_E_d8 d8) := of_imm8 0x1E#8 d8 rfl rfl
theorem rra : Statement .rra := of_op 0x1F#8 rfl rfl
theorem jr_NZ_e8 (e8 : Byte) : Statement (.jr_NZ_e8 e8) := of_imm8 0x20#8 e8 rfl rfl
theorem ld_HL_d16 (d16 : Word) : Statement (.ld_HL_d16 d16) := of_imm16 0x21#8 d16 rfl rfl
theorem ld_mHLi_A : Statement .ld_mHLi_A := of_op 0x22#8 rfl rfl
theorem inc_HL : Statement .inc_HL := of_op 0x23#8 rfl rfl
theorem inc_H : Statement .inc_H := of_op 0x24#8 rfl rfl
theorem dec_H : Statement .dec_H := of_op 0x25#8 rfl rfl
theorem ld_H_d8 (d8 : Byte) : Statement (.ld_H_d8 d8) := of_imm8 0x26#8 d8 rfl rfl
theorem daa : Statement .daa := of_op 0x27#8 rfl rfl
theorem jr_Z_e8 (e8 : Byte) : Statement (.jr_Z_e8 e8) := of_imm8 0x28#8 e8 rfl rfl
theorem add_HL_HL : Statement .add_HL_HL := of_op 0x29#8 rfl rfl
theorem ld_A_mHLi : Statement .ld_A_mHLi := of_op 0x2A#8 rfl rfl
theorem dec_HL : Statement .dec_HL := of_op 0x2B#8 rfl rfl
theorem inc_L : Statement .inc_L := of_op 0x2C#8 rfl rfl
theorem dec_L : Statement .dec_L := of_op 0x2D#8 rfl rfl
theorem ld_L_d8 (d8 : Byte) : Statement (.ld_L_d8 d8) := of_imm8 0x2E#8 d8 rfl rfl
theorem cpl : Statement .cpl := of_op 0x2F#8 rfl rfl
theorem jr_NC_e8 (e8 : Byte) : Statement (.jr_NC_e8 e8) := of_imm8 0x30#8 e8 rfl rfl
theorem ld_SP_d16 (d16 : Word) : Statement (.ld_SP_d16 d16) := of_imm16 0x31#8 d16 rfl rfl
theorem ld_mHLd_A : Statement .ld_mHLd_A := of_op 0x32#8 rfl rfl
theorem inc_SP : Statement .inc_SP := of_op 0x33#8 rfl rfl
theorem inc_mHL : Statement .inc_mHL := of_op 0x34#8 rfl rfl
theorem dec_mHL : Statement .dec_mHL := of_op 0x35#8 rfl rfl
theorem ld_mHL_d8 (d8 : Byte) : Statement (.ld_mHL_d8 d8) := of_imm8 0x36#8 d8 rfl rfl
theorem scf : Statement .scf := of_op 0x37#8 rfl rfl
theorem jr_C_e8 (e8 : Byte) : Statement (.jr_C_e8 e8) := of_imm8 0x38#8 e8 rfl rfl
theorem add_HL_SP : Statement .add_HL_SP := of_op 0x39#8 rfl rfl
theorem ld_A_mHLd : Statement .ld_A_mHLd := of_op 0x3A#8 rfl rfl
theorem dec_SP : Statement .dec_SP := of_op 0x3B#8 rfl rfl
theorem inc_A : Statement .inc_A := of_op 0x3C#8 rfl rfl
theorem dec_A : Statement .dec_A := of_op 0x3D#8 rfl rfl
theorem ld_A_d8 (d8 : Byte) : Statement (.ld_A_d8 d8) := of_imm8 0x3E#8 d8 rfl rfl
theorem ccf : Statement .ccf := of_op 0x3F#8 rfl rfl
theorem ld_B_B : Statement .ld_B_B := of_op 0x40#8 rfl rfl
theorem ld_B_C : Statement .ld_B_C := of_op 0x41#8 rfl rfl
theorem ld_B_D : Statement .ld_B_D := of_op 0x42#8 rfl rfl
theorem ld_B_E : Statement .ld_B_E := of_op 0x43#8 rfl rfl
theorem ld_B_H : Statement .ld_B_H := of_op 0x44#8 rfl rfl
theorem ld_B_L : Statement .ld_B_L := of_op 0x45#8 rfl rfl
theorem ld_B_mHL : Statement .ld_B_mHL := of_op 0x46#8 rfl rfl
theorem ld_B_A : Statement .ld_B_A := of_op 0x47#8 rfl rfl
theorem ld_C_B : Statement .ld_C_B := of_op 0x48#8 rfl rfl
theorem ld_C_C : Statement .ld_C_C := of_op 0x49#8 rfl rfl
theorem ld_C_D : Statement .ld_C_D := of_op 0x4A#8 rfl rfl
theorem ld_C_E : Statement .ld_C_E := of_op 0x4B#8 rfl rfl
theorem ld_C_H : Statement .ld_C_H := of_op 0x4C#8 rfl rfl
theorem ld_C_L : Statement .ld_C_L := of_op 0x4D#8 rfl rfl
theorem ld_C_mHL : Statement .ld_C_mHL := of_op 0x4E#8 rfl rfl
theorem ld_C_A : Statement .ld_C_A := of_op 0x4F#8 rfl rfl
theorem ld_D_B : Statement .ld_D_B := of_op 0x50#8 rfl rfl
theorem ld_D_C : Statement .ld_D_C := of_op 0x51#8 rfl rfl
theorem ld_D_D : Statement .ld_D_D := of_op 0x52#8 rfl rfl
theorem ld_D_E : Statement .ld_D_E := of_op 0x53#8 rfl rfl
theorem ld_D_H : Statement .ld_D_H := of_op 0x54#8 rfl rfl
theorem ld_D_L : Statement .ld_D_L := of_op 0x55#8 rfl rfl
theorem ld_D_mHL : Statement .ld_D_mHL := of_op 0x56#8 rfl rfl
theorem ld_D_A : Statement .ld_D_A := of_op 0x57#8 rfl rfl
theorem ld_E_B : Statement .ld_E_B := of_op 0x58#8 rfl rfl
theorem ld_E_C : Statement .ld_E_C := of_op 0x59#8 rfl rfl
theorem ld_E_D : Statement .ld_E_D := of_op 0x5A#8 rfl rfl
theorem ld_E_E : Statement .ld_E_E := of_op 0x5B#8 rfl rfl
theorem ld_E_H : Statement .ld_E_H := of_op 0x5C#8 rfl rfl
theorem ld_E_L : Statement .ld_E_L := of_op 0x5D#8 rfl rfl
theorem ld_E_mHL : Statement .ld_E_mHL := of_op 0x5E#8 rfl rfl
theorem ld_E_A : Statement .ld_E_A := of_op 0x5F#8 rfl rfl
theorem ld_H_B : Statement .ld_H_B := of_op 0x60#8 rfl rfl
theorem ld_H_C : Statement .ld_H_C := of_op 0x61#8 rfl rfl
theorem ld_H_D : Statement .ld_H_D := of_op 0x62#8 rfl rfl
theorem ld_H_E : Statement .ld_H_E := of_op 0x63#8 rfl rfl
theorem ld_H_H : Statement .ld_H_H := of_op 0x64#8 rfl rfl
theorem ld_H_L : Statement .ld_H_L := of_op 0x65#8 rfl rfl
theorem ld_H_mHL : Statement .ld_H_mHL := of_op 0x66#8 rfl rfl
theorem ld_H_A : Statement .ld_H_A := of_op 0x67#8 rfl rfl
theorem ld_L_B : Statement .ld_L_B := of_op 0x68#8 rfl rfl
theorem ld_L_C : Statement .ld_L_C := of_op 0x69#8 rfl rfl
theorem ld_L_D : Statement .ld_L_D := of_op 0x6A#8 rfl rfl
theorem ld_L_E : Statement .ld_L_E := of_op 0x6B#8 rfl rfl
theorem ld_L_H : Statement .ld_L_H := of_op 0x6C#8 rfl rfl
theorem ld_L_L : Statement .ld_L_L := of_op 0x6D#8 rfl rfl
theorem ld_L_mHL : Statement .ld_L_mHL := of_op 0x6E#8 rfl rfl
theorem ld_L_A : Statement .ld_L_A := of_op 0x6F#8 rfl rfl
theorem ld_mHL_B : Statement .ld_mHL_B := of_op 0x70#8 rfl rfl
theorem ld_mHL_C : Statement .ld_mHL_C := of_op 0x71#8 rfl rfl
theorem ld_mHL_D : Statement .ld_mHL_D := of_op 0x72#8 rfl rfl
theorem ld_mHL_E : Statement .ld_mHL_E := of_op 0x73#8 rfl rfl
theorem ld_mHL_H : Statement .ld_mHL_H := of_op 0x74#8 rfl rfl
theorem ld_mHL_L : Statement .ld_mHL_L := of_op 0x75#8 rfl rfl
theorem halt : Statement .halt := of_op 0x76#8 rfl rfl
theorem ld_mHL_A : Statement .ld_mHL_A := of_op 0x77#8 rfl rfl
theorem ld_A_B : Statement .ld_A_B := of_op 0x78#8 rfl rfl
theorem ld_A_C : Statement .ld_A_C := of_op 0x79#8 rfl rfl
theorem ld_A_D : Statement .ld_A_D := of_op 0x7A#8 rfl rfl
theorem ld_A_E : Statement .ld_A_E := of_op 0x7B#8 rfl rfl
theorem ld_A_H : Statement .ld_A_H := of_op 0x7C#8 rfl rfl
theorem ld_A_L : Statement .ld_A_L := of_op 0x7D#8 rfl rfl
theorem ld_A_mHL : Statement .ld_A_mHL := of_op 0x7E#8 rfl rfl
theorem ld_A_A : Statement .ld_A_A := of_op 0x7F#8 rfl rfl
theorem add_A_B : Statement .add_A_B := of_op 0x80#8 rfl rfl
theorem add_A_C : Statement .add_A_C := of_op 0x81#8 rfl rfl
theorem add_A_D : Statement .add_A_D := of_op 0x82#8 rfl rfl
theorem add_A_E : Statement .add_A_E := of_op 0x83#8 rfl rfl
theorem add_A_H : Statement .add_A_H := of_op 0x84#8 rfl rfl
theorem add_A_L : Statement .add_A_L := of_op 0x85#8 rfl rfl
theorem add_A_mHL : Statement .add_A_mHL := of_op 0x86#8 rfl rfl
theorem add_A_A : Statement .add_A_A := of_op 0x87#8 rfl rfl
theorem adc_A_B : Statement .adc_A_B := of_op 0x88#8 rfl rfl
theorem adc_A_C : Statement .adc_A_C := of_op 0x89#8 rfl rfl
theorem adc_A_D : Statement .adc_A_D := of_op 0x8A#8 rfl rfl
theorem adc_A_E : Statement .adc_A_E := of_op 0x8B#8 rfl rfl
theorem adc_A_H : Statement .adc_A_H := of_op 0x8C#8 rfl rfl
theorem adc_A_L : Statement .adc_A_L := of_op 0x8D#8 rfl rfl
theorem adc_A_mHL : Statement .adc_A_mHL := of_op 0x8E#8 rfl rfl
theorem adc_A_A : Statement .adc_A_A := of_op 0x8F#8 rfl rfl
theorem sub_B : Statement .sub_B := of_op 0x90#8 rfl rfl
theorem sub_C : Statement .sub_C := of_op 0x91#8 rfl rfl
theorem sub_D : Statement .sub_D := of_op 0x92#8 rfl rfl
theorem sub_E : Statement .sub_E := of_op 0x93#8 rfl rfl
theorem sub_H : Statement .sub_H := of_op 0x94#8 rfl rfl
theorem sub_L : Statement .sub_L := of_op 0x95#8 rfl rfl
theorem sub_mHL : Statement .sub_mHL := of_op 0x96#8 rfl rfl
theorem sub_A : Statement .sub_A := of_op 0x97#8 rfl rfl
theorem sbc_A_B : Statement .sbc_A_B := of_op 0x98#8 rfl rfl
theorem sbc_A_C : Statement .sbc_A_C := of_op 0x99#8 rfl rfl
theorem sbc_A_D : Statement .sbc_A_D := of_op 0x9A#8 rfl rfl
theorem sbc_A_E : Statement .sbc_A_E := of_op 0x9B#8 rfl rfl
theorem sbc_A_H : Statement .sbc_A_H := of_op 0x9C#8 rfl rfl
theorem sbc_A_L : Statement .sbc_A_L := of_op 0x9D#8 rfl rfl
theorem sbc_A_mHL : Statement .sbc_A_mHL := of_op 0x9E#8 rfl rfl
theorem sbc_A_A : Statement .sbc_A_A := of_op 0x9F#8 rfl rfl
theorem and_B : Statement .and_B := of_op 0xA0#8 rfl rfl
theorem and_C : Statement .and_C := of_op 0xA1#8 rfl rfl
theorem and_D : Statement .and_D := of_op 0xA2#8 rfl rfl
theorem and_E : Statement .and_E := of_op 0xA3#8 rfl rfl
theorem and_H : Statement .and_H := of_op 0xA4#8 rfl rfl
theorem and_L : Statement .and_L := of_op 0xA5#8 rfl rfl
theorem and_mHL : Statement .and_mHL := of_op 0xA6#8 rfl rfl
theorem and_A : Statement .and_A := of_op 0xA7#8 rfl rfl
theorem xor_B : Statement .xor_B := of_op 0xA8#8 rfl rfl
theorem xor_C : Statement .xor_C := of_op 0xA9#8 rfl rfl
theorem xor_D : Statement .xor_D := of_op 0xAA#8 rfl rfl
theorem xor_E : Statement .xor_E := of_op 0xAB#8 rfl rfl
theorem xor_H : Statement .xor_H := of_op 0xAC#8 rfl rfl
theorem xor_L : Statement .xor_L := of_op 0xAD#8 rfl rfl
theorem xor_mHL : Statement .xor_mHL := of_op 0xAE#8 rfl rfl
theorem xor_A : Statement .xor_A := of_op 0xAF#8 rfl rfl
theorem or_B : Statement .or_B := of_op 0xB0#8 rfl rfl
theorem or_C : Statement .or_C := of_op 0xB1#8 rfl rfl
theorem or_D : Statement .or_D := of_op 0xB2#8 rfl rfl
theorem or_E : Statement .or_E := of_op 0xB3#8 rfl rfl
theorem or_H : Statement .or_H := of_op 0xB4#8 rfl rfl
theorem or_L : Statement .or_L := of_op 0xB5#8 rfl rfl
theorem or_mHL : Statement .or_mHL := of_op 0xB6#8 rfl rfl
theorem or_A : Statement .or_A := of_op 0xB7#8 rfl rfl
theorem cp_B : Statement .cp_B := of_op 0xB8#8 rfl rfl
theorem cp_C : Statement .cp_C := of_op 0xB9#8 rfl rfl
theorem cp_D : Statement .cp_D := of_op 0xBA#8 rfl rfl
theorem cp_E : Statement .cp_E := of_op 0xBB#8 rfl rfl
theorem cp_H : Statement .cp_H := of_op 0xBC#8 rfl rfl
theorem cp_L : Statement .cp_L := of_op 0xBD#8 rfl rfl
theorem cp_mHL : Statement .cp_mHL := of_op 0xBE#8 rfl rfl
theorem cp_A : Statement .cp_A := of_op 0xBF#8 rfl rfl
theorem ret_NZ : Statement .ret_NZ := of_op 0xC0#8 rfl rfl
theorem pop_BC : Statement .pop_BC := of_op 0xC1#8 rfl rfl
theorem jp_NZ_a16 (a16 : Word) : Statement (.jp_NZ_a16 a16) := of_imm16 0xC2#8 a16 rfl rfl
theorem jp_a16 (a16 : Word) : Statement (.jp_a16 a16) := of_imm16 0xC3#8 a16 rfl rfl
theorem call_NZ_a16 (a16 : Word) : Statement (.call_NZ_a16 a16) := of_imm16 0xC4#8 a16 rfl rfl
theorem push_BC : Statement .push_BC := of_op 0xC5#8 rfl rfl
theorem add_A_d8 (d8 : Byte) : Statement (.add_A_d8 d8) := of_imm8 0xC6#8 d8 rfl rfl
theorem rst_00 : Statement .rst_00 := of_op 0xC7#8 rfl rfl
theorem ret_Z : Statement .ret_Z := of_op 0xC8#8 rfl rfl
theorem ret : Statement .ret := of_op 0xC9#8 rfl rfl
theorem jp_Z_a16 (a16 : Word) : Statement (.jp_Z_a16 a16) := of_imm16 0xCA#8 a16 rfl rfl
theorem call_Z_a16 (a16 : Word) : Statement (.call_Z_a16 a16) := of_imm16 0xCC#8 a16 rfl rfl
theorem call_a16 (a16 : Word) : Statement (.call_a16 a16) := of_imm16 0xCD#8 a16 rfl rfl
theorem adc_A_d8 (d8 : Byte) : Statement (.adc_A_d8 d8) := of_imm8 0xCE#8 d8 rfl rfl
theorem rst_08 : Statement .rst_08 := of_op 0xCF#8 rfl rfl
theorem ret_NC : Statement .ret_NC := of_op 0xD0#8 rfl rfl
theorem pop_DE : Statement .pop_DE := of_op 0xD1#8 rfl rfl
theorem jp_NC_a16 (a16 : Word) : Statement (.jp_NC_a16 a16) := of_imm16 0xD2#8 a16 rfl rfl
theorem illegal_D3 : Statement .illegal_D3 := of_op 0xD3#8 rfl rfl
theorem call_NC_a16 (a16 : Word) : Statement (.call_NC_a16 a16) := of_imm16 0xD4#8 a16 rfl rfl
theorem push_DE : Statement .push_DE := of_op 0xD5#8 rfl rfl
theorem sub_d8 (d8 : Byte) : Statement (.sub_d8 d8) := of_imm8 0xD6#8 d8 rfl rfl
theorem rst_10 : Statement .rst_10 := of_op 0xD7#8 rfl rfl
theorem ret_C : Statement .ret_C := of_op 0xD8#8 rfl rfl
theorem reti : Statement .reti := of_op 0xD9#8 rfl rfl
theorem jp_C_a16 (a16 : Word) : Statement (.jp_C_a16 a16) := of_imm16 0xDA#8 a16 rfl rfl
theorem illegal_DB : Statement .illegal_DB := of_op 0xDB#8 rfl rfl
theorem call_C_a16 (a16 : Word) : Statement (.call_C_a16 a16) := of_imm16 0xDC#8 a16 rfl rfl
theorem illegal_DD : Statement .illegal_DD := of_op 0xDD#8 rfl rfl
theorem sbc_A_d8 (d8 : Byte) : Statement (.sbc_A_d8 d8) := of_imm8 0xDE#8 d8 rfl rfl
theorem rst_18 : Statement .rst_18 := of_op 0xDF#8 rfl rfl
theorem ldh_ma8_A (a8 : Byte) : Statement (.ldh_ma8_A a8) := of_imm8 0xE0#8 a8 rfl rfl
theorem pop_HL : Statement .pop_HL := of_op 0xE1#8 rfl rfl
theorem ld_mC_A : Statement .ld_mC_A := of_op 0xE2#8 rfl rfl
theorem illegal_E3 : Statement .illegal_E3 := of_op 0xE3#8 rfl rfl
theorem illegal_E4 : Statement .illegal_E4 := of_op 0xE4#8 rfl rfl
theorem push_HL : Statement .push_HL := of_op 0xE5#8 rfl rfl
theorem and_d8 (d8 : Byte) : Statement (.and_d8 d8) := of_imm8 0xE6#8 d8 rfl rfl
theorem rst_20 : Statement .rst_20 := of_op 0xE7#8 rfl rfl
theorem add_SP_e8 (e8 : Byte) : Statement (.add_SP_e8 e8) := of_imm8 0xE8#8 e8 rfl rfl
theorem jp_HL : Statement .jp_HL := of_op 0xE9#8 rfl rfl
theorem ld_ma16_A (a16 : Word) : Statement (.ld_ma16_A a16) := of_imm16 0xEA#8 a16 rfl rfl
theorem illegal_EB : Statement .illegal_EB := of_op 0xEB#8 rfl rfl
theorem illegal_EC : Statement .illegal_EC := of_op 0xEC#8 rfl rfl
theorem illegal_ED : Statement .illegal_ED := of_op 0xED#8 rfl rfl
theorem xor_d8 (d8 : Byte) : Statement (.xor_d8 d8) := of_imm8 0xEE#8 d8 rfl rfl
theorem rst_28 : Statement .rst_28 := of_op 0xEF#8 rfl rfl
theorem ldh_A_ma8 (a8 : Byte) : Statement (.ldh_A_ma8 a8) := of_imm8 0xF0#8 a8 rfl rfl
theorem pop_AF : Statement .pop_AF := of_op 0xF1#8 rfl rfl
theorem ld_A_mC : Statement .ld_A_mC := of_op 0xF2#8 rfl rfl
theorem di : Statement .di := of_op 0xF3#8 rfl rfl
theorem illegal_F4 : Statement .illegal_F4 := of_op 0xF4#8 rfl rfl
theorem push_AF : Statement .push_AF := of_op 0xF5#8 rfl rfl
theorem or_d8 (d8 : Byte) : Statement (.or_d8 d8) := of_imm8 0xF6#8 d8 rfl rfl
theorem rst_30 : Statement .rst_30 := of_op 0xF7#8 rfl rfl
theorem ld_HL_SPe8 (e8 : Byte) : Statement (.ld_HL_SPe8 e8) := of_imm8 0xF8#8 e8 rfl rfl
theorem ld_SP_HL : Statement .ld_SP_HL := of_op 0xF9#8 rfl rfl
theorem ld_A_ma16 (a16 : Word) : Statement (.ld_A_ma16 a16) := of_imm16 0xFA#8 a16 rfl rfl
theorem ei : Statement .ei := of_op 0xFB#8 rfl rfl
theorem illegal_FC : Statement .illegal_FC := of_op 0xFC#8 rfl rfl
theorem illegal_FD : Statement .illegal_FD := of_op 0xFD#8 rfl rfl
theorem cp_d8 (d8 : Byte) : Statement (.cp_d8 d8) := of_imm8 0xFE#8 d8 rfl rfl
theorem rst_38 : Statement .rst_38 := of_op 0xFF#8 rfl rfl
theorem rlc_B : Statement .rlc_B := of_extended 0x00#8 rfl rfl
theorem rlc_C : Statement .rlc_C := of_extended 0x01#8 rfl rfl
theorem rlc_D : Statement .rlc_D := of_extended 0x02#8 rfl rfl
theorem rlc_E : Statement .rlc_E := of_extended 0x03#8 rfl rfl
theorem rlc_H : Statement .rlc_H := of_extended 0x04#8 rfl rfl
theorem rlc_L : Statement .rlc_L := of_extended 0x05#8 rfl rfl
theorem rlc_mHL : Statement .rlc_mHL := of_extended 0x06#8 rfl rfl
theorem rlc_A : Statement .rlc_A := of_extended 0x07#8 rfl rfl
theorem rrc_B : Statement .rrc_B := of_extended 0x08#8 rfl rfl
theorem rrc_C : Statement .rrc_C := of_extended 0x09#8 rfl rfl
theorem rrc_D : Statement .rrc_D := of_extended 0x0A#8 rfl rfl
theorem rrc_E : Statement .rrc_E := of_extended 0x0B#8 rfl rfl
theorem rrc_H : Statement .rrc_H := of_extended 0x0C#8 rfl rfl
theorem rrc_L : Statement .rrc_L := of_extended 0x0D#8 rfl rfl
theorem rrc_mHL : Statement .rrc_mHL := of_extended 0x0E#8 rfl rfl
theorem rrc_A : Statement .rrc_A := of_extended 0x0F#8 rfl rfl
theorem rl_B : Statement .rl_B := of_extended 0x10#8 rfl rfl
theorem rl_C : Statement .rl_C := of_extended 0x11#8 rfl rfl
theorem rl_D : Statement .rl_D := of_extended 0x12#8 rfl rfl
theorem rl_E : Statement .rl_E := of_extended 0x13#8 rfl rfl
theorem rl_H : Statement .rl_H := of_extended 0x14#8 rfl rfl
theorem rl_L : Statement .rl_L := of_extended 0x15#8 rfl rfl
theorem rl_mHL : Statement .rl_mHL := of_extended 0x16#8 rfl rfl
theorem rl_A : Statement .rl_A := of_extended 0x17#8 rfl rfl
theorem rr_B : Statement .rr_B := of_extended 0x18#8 rfl rfl
theorem rr_C : Statement .rr_C := of_extended 0x19#8 rfl rfl
theorem rr_D : Statement .rr_D := of_extended 0x1A#8 rfl rfl
theorem rr_E : Statement .rr_E := of_extended 0x1B#8 rfl rfl
theorem rr_H : Statement .rr_H := of_extended 0x1C#8 rfl rfl
theorem rr_L : Statement .rr_L := of_extended 0x1D#8 rfl rfl
theorem rr_mHL : Statement .rr_mHL := of_extended 0x1E#8 rfl rfl
theorem rr_A : Statement .rr_A := of_extended 0x1F#8 rfl rfl
theorem sla_B : Statement .sla_B := of_extended 0x20#8 rfl rfl
theorem sla_C : Statement .sla_C := of_extended 0x21#8 rfl rfl
theorem sla_D : Statement .sla_D := of_extended 0x22#8 rfl rfl
theorem sla_E : Statement .sla_E := of_extended 0x23#8 rfl rfl
theorem sla_H : Statement .sla_H := of_extended 0x24#8 rfl rfl
theorem sla_L : Statement .sla_L := of_extended 0x25#8 rfl rfl
theorem sla_mHL : Statement .sla_mHL := of_extended 0x26#8 rfl rfl
theorem sla_A : Statement .sla_A := of_extended 0x27#8 rfl rfl
theorem sra_B : Statement .sra_B := of_extended 0x28#8 rfl rfl
theorem sra_C : Statement .sra_C := of_extended 0x29#8 rfl rfl
theorem sra_D : Statement .sra_D := of_extended 0x2A#8 rfl rfl
theorem sra_E : Statement .sra_E := of_extended 0x2B#8 rfl rfl
theorem sra_H : Statement .sra_H := of_extended 0x2C#8 rfl rfl
theorem sra_L : Statement .sra_L := of_extended 0x2D#8 rfl rfl
theorem sra_mHL : Statement .sra_mHL := of_extended 0x2E#8 rfl rfl
theorem sra_A : Statement .sra_A := of_extended 0x2F#8 rfl rfl
theorem swap_B : Statement .swap_B := of_extended 0x30#8 rfl rfl
theorem swap_C : Statement .swap_C := of_extended 0x31#8 rfl rfl
theorem swap_D : Statement .swap_D := of_extended 0x32#8 rfl rfl
theorem swap_E : Statement .swap_E := of_extended 0x33#8 rfl rfl
theorem swap_H : Statement .swap_H := of_extended 0x34#8 rfl rfl
theorem swap_L : Statement .swap_L := of_extended 0x35#8 rfl rfl
theorem swap_mHL : Statement .swap_mHL := of_extended 0x36#8 rfl rfl
theorem swap_A : Statement .swap_A := of_extended 0x37#8 rfl rfl
theorem srl_B : Statement .srl_B := of_extended 0x38#8 rfl rfl
theorem srl_C : Statement .srl_C := of_extended 0x39#8 rfl rfl
theorem srl_D : Statement .srl_D := of_extended 0x3A#8 rfl rfl
theorem srl_E : Statement .srl_E := of_extended 0x3B#8 rfl rfl
theorem srl_H : Statement .srl_H := of_extended 0x3C#8 rfl rfl
theorem srl_L : Statement .srl_L := of_extended 0x3D#8 rfl rfl
theorem srl_mHL : Statement .srl_mHL := of_extended 0x3E#8 rfl rfl
theorem srl_A : Statement .srl_A := of_extended 0x3F#8 rfl rfl
theorem bit_0_B : Statement .bit_0_B := of_extended 0x40#8 rfl rfl
theorem bit_0_C : Statement .bit_0_C := of_extended 0x41#8 rfl rfl
theorem bit_0_D : Statement .bit_0_D := of_extended 0x42#8 rfl rfl
theorem bit_0_E : Statement .bit_0_E := of_extended 0x43#8 rfl rfl
theorem bit_0_H : Statement .bit_0_H := of_extended 0x44#8 rfl rfl
theorem bit_0_L : Statement .bit_0_L := of_extended 0x45#8 rfl rfl
theorem bit_0_mHL : Statement .bit_0_mHL := of_extended 0x46#8 rfl rfl
theorem bit_0_A : Statement .bit_0_A := of_extended 0x47#8 rfl rfl
theorem bit_1_B : Statement .bit_1_B := of_extended 0x48#8 rfl rfl
theorem bit_1_C : Statement .bit_1_C := of_extended 0x49#8 rfl rfl
theorem bit_1_D : Statement .bit_1_D := of_extended 0x4A#8 rfl rfl
theorem bit_1_E : Statement .bit_1_E := of_extended 0x4B#8 rfl rfl
theorem bit_1_H : Statement .bit_1_H := of_extended 0x4C#8 rfl rfl
theorem bit_1_L : Statement .bit_1_L := of_extended 0x4D#8 rfl rfl
theorem bit_1_mHL : Statement .bit_1_mHL := of_extended 0x4E#8 rfl rfl
theorem bit_1_A : Statement .bit_1_A := of_extended 0x4F#8 rfl rfl
theorem bit_2_B : Statement .bit_2_B := of_extended 0x50#8 rfl rfl
theorem bit_2_C : Statement .bit_2_C := of_extended 0x51#8 rfl rfl
theorem bit_2_D : Statement .bit_2_D := of_extended 0x52#8 rfl rfl
theorem bit_2_E : Statement .bit_2_E := of_extended 0x53#8 rfl rfl
theorem bit_2_H : Statement .bit_2_H := of_extended 0x54#8 rfl rfl
theorem bit_2_L : Statement .bit_2_L := of_extended 0x55#8 rfl rfl
theorem bit_2_mHL : Statement .bit_2_mHL := of_extended 0x56#8 rfl rfl
theorem bit_2_A : Statement .bit_2_A := of_extended 0x57#8 rfl rfl
theorem bit_3_B : Statement .bit_3_B := of_extended 0x58#8 rfl rfl
theorem bit_3_C : Statement .bit_3_C := of_extended 0x59#8 rfl rfl
theorem bit_3_D : Statement .bit_3_D := of_extended 0x5A#8 rfl rfl
theorem bit_3_E : Statement .bit_3_E := of_extended 0x5B#8 rfl rfl
theorem bit_3_H : Statement .bit_3_H := of_extended 0x5C#8 rfl rfl
theorem bit_3_L : Statement .bit_3_L := of_extended 0x5D#8 rfl rfl
theorem bit_3_mHL : Statement .bit_3_mHL := of_extended 0x5E#8 rfl rfl
theorem bit_3_A : Statement .bit_3_A := of_extended 0x5F#8 rfl rfl
theorem bit_4_B : Statement .bit_4_B := of_extended 0x60#8 rfl rfl
theorem bit_4_C : Statement .bit_4_C := of_extended 0x61#8 rfl rfl
theorem bit_4_D : Statement .bit_4_D := of_extended 0x62#8 rfl rfl
theorem bit_4_E : Statement .bit_4_E := of_extended 0x63#8 rfl rfl
theorem bit_4_H : Statement .bit_4_H := of_extended 0x64#8 rfl rfl
theorem bit_4_L : Statement .bit_4_L := of_extended 0x65#8 rfl rfl
theorem bit_4_mHL : Statement .bit_4_mHL := of_extended 0x66#8 rfl rfl
theorem bit_4_A : Statement .bit_4_A := of_extended 0x67#8 rfl rfl
theorem bit_5_B : Statement .bit_5_B := of_extended 0x68#8 rfl rfl
theorem bit_5_C : Statement .bit_5_C := of_extended 0x69#8 rfl rfl
theorem bit_5_D : Statement .bit_5_D := of_extended 0x6A#8 rfl rfl
theorem bit_5_E : Statement .bit_5_E := of_extended 0x6B#8 rfl rfl
theorem bit_5_H : Statement .bit_5_H := of_extended 0x6C#8 rfl rfl
theorem bit_5_L : Statement .bit_5_L := of_extended 0x6D#8 rfl rfl
theorem bit_5_mHL : Statement .bit_5_mHL := of_extended 0x6E#8 rfl rfl
theorem bit_5_A : Statement .bit_5_A := of_extended 0x6F#8 rfl rfl
theorem bit_6_B : Statement .bit_6_B := of_extended 0x70#8 rfl rfl
theorem bit_6_C : Statement .bit_6_C := of_extended 0x71#8 rfl rfl
theorem bit_6_D : Statement .bit_6_D := of_extended 0x72#8 rfl rfl
theorem bit_6_E : Statement .bit_6_E := of_extended 0x73#8 rfl rfl
theorem bit_6_H : Statement .bit_6_H := of_extended 0x74#8 rfl rfl
theorem bit_6_L : Statement .bit_6_L := of_extended 0x75#8 rfl rfl
theorem bit_6_mHL : Statement .bit_6_mHL := of_extended 0x76#8 rfl rfl
theorem bit_6_A : Statement .bit_6_A := of_extended 0x77#8 rfl rfl
theorem bit_7_B : Statement .bit_7_B := of_extended 0x78#8 rfl rfl
theorem bit_7_C : Statement .bit_7_C := of_extended 0x79#8 rfl rfl
theorem bit_7_D : Statement .bit_7_D := of_extended 0x7A#8 rfl rfl
theorem bit_7_E : Statement .bit_7_E := of_extended 0x7B#8 rfl rfl
theorem bit_7_H : Statement .bit_7_H := of_extended 0x7C#8 rfl rfl
theorem bit_7_L : Statement .bit_7_L := of_extended 0x7D#8 rfl rfl
theorem bit_7_mHL : Statement .bit_7_mHL := of_extended 0x7E#8 rfl rfl
theorem bit_7_A : Statement .bit_7_A := of_extended 0x7F#8 rfl rfl
theorem res_0_B : Statement .res_0_B := of_extended 0x80#8 rfl rfl
theorem res_0_C : Statement .res_0_C := of_extended 0x81#8 rfl rfl
theorem res_0_D : Statement .res_0_D := of_extended 0x82#8 rfl rfl
theorem res_0_E : Statement .res_0_E := of_extended 0x83#8 rfl rfl
theorem res_0_H : Statement .res_0_H := of_extended 0x84#8 rfl rfl
theorem res_0_L : Statement .res_0_L := of_extended 0x85#8 rfl rfl
theorem res_0_mHL : Statement .res_0_mHL := of_extended 0x86#8 rfl rfl
theorem res_0_A : Statement .res_0_A := of_extended 0x87#8 rfl rfl
theorem res_1_B : Statement .res_1_B := of_extended 0x88#8 rfl rfl
theorem res_1_C : Statement .res_1_C := of_extended 0x89#8 rfl rfl
theorem res_1_D : Statement .res_1_D := of_extended 0x8A#8 rfl rfl
theorem res_1_E : Statement .res_1_E := of_extended 0x8B#8 rfl rfl
theorem res_1_H : Statement .res_1_H := of_extended 0x8C#8 rfl rfl
theorem res_1_L : Statement .res_1_L := of_extended 0x8D#8 rfl rfl
theorem res_1_mHL : Statement .res_1_mHL := of_extended 0x8E#8 rfl rfl
theorem res_1_A : Statement .res_1_A := of_extended 0x8F#8 rfl rfl
theorem res_2_B : Statement .res_2_B := of_extended 0x90#8 rfl rfl
theorem res_2_C : Statement .res_2_C := of_extended 0x91#8 rfl rfl
theorem res_2_D : Statement .res_2_D := of_extended 0x92#8 rfl rfl
theorem res_2_E : Statement .res_2_E := of_extended 0x93#8 rfl rfl
theorem res_2_H : Statement .res_2_H := of_extended 0x94#8 rfl rfl
theorem res_2_L : Statement .res_2_L := of_extended 0x95#8 rfl rfl
theorem res_2_mHL : Statement .res_2_mHL := of_extended 0x96#8 rfl rfl
theorem res_2_A : Statement .res_2_A := of_extended 0x97#8 rfl rfl
theorem res_3_B : Statement .res_3_B := of_extended 0x98#8 rfl rfl
theorem res_3_C : Statement .res_3_C := of_extended 0x99#8 rfl rfl
theorem res_3_D : Statement .res_3_D := of_extended 0x9A#8 rfl rfl
theorem res_3_E : Statement .res_3_E := of_extended 0x9B#8 rfl rfl
theorem res_3_H : Statement .res_3_H := of_extended 0x9C#8 rfl rfl
theorem res_3_L : Statement .res_3_L := of_extended 0x9D#8 rfl rfl
theorem res_3_mHL : Statement .res_3_mHL := of_extended 0x9E#8 rfl rfl
theorem res_3_A : Statement .res_3_A := of_extended 0x9F#8 rfl rfl
theorem res_4_B : Statement .res_4_B := of_extended 0xA0#8 rfl rfl
theorem res_4_C : Statement .res_4_C := of_extended 0xA1#8 rfl rfl
theorem res_4_D : Statement .res_4_D := of_extended 0xA2#8 rfl rfl
theorem res_4_E : Statement .res_4_E := of_extended 0xA3#8 rfl rfl
theorem res_4_H : Statement .res_4_H := of_extended 0xA4#8 rfl rfl
theorem res_4_L : Statement .res_4_L := of_extended 0xA5#8 rfl rfl
theorem res_4_mHL : Statement .res_4_mHL := of_extended 0xA6#8 rfl rfl
theorem res_4_A : Statement .res_4_A := of_extended 0xA7#8 rfl rfl
theorem res_5_B : Statement .res_5_B := of_extended 0xA8#8 rfl rfl
theorem res_5_C : Statement .res_5_C := of_extended 0xA9#8 rfl rfl
theorem res_5_D : Statement .res_5_D := of_extended 0xAA#8 rfl rfl
theorem res_5_E : Statement .res_5_E := of_extended 0xAB#8 rfl rfl
theorem res_5_H : Statement .res_5_H := of_extended 0xAC#8 rfl rfl
theorem res_5_L : Statement .res_5_L := of_extended 0xAD#8 rfl rfl
theorem res_5_mHL : Statement .res_5_mHL := of_extended 0xAE#8 rfl rfl
theorem res_5_A : Statement .res_5_A := of_extended 0xAF#8 rfl rfl
theorem res_6_B : Statement .res_6_B := of_extended 0xB0#8 rfl rfl
theorem res_6_C : Statement .res_6_C := of_extended 0xB1#8 rfl rfl
theorem res_6_D : Statement .res_6_D := of_extended 0xB2#8 rfl rfl
theorem res_6_E : Statement .res_6_E := of_extended 0xB3#8 rfl rfl
theorem res_6_H : Statement .res_6_H := of_extended 0xB4#8 rfl rfl
theorem res_6_L : Statement .res_6_L := of_extended 0xB5#8 rfl rfl
theorem res_6_mHL : Statement .res_6_mHL := of_extended 0xB6#8 rfl rfl
theorem res_6_A : Statement .res_6_A := of_extended 0xB7#8 rfl rfl
theorem res_7_B : Statement .res_7_B := of_extended 0xB8#8 rfl rfl
theorem res_7_C : Statement .res_7_C := of_extended 0xB9#8 rfl rfl
theorem res_7_D : Statement .res_7_D := of_extended 0xBA#8 rfl rfl
theorem res_7_E : Statement .res_7_E := of_extended 0xBB#8 rfl rfl
theorem res_7_H : Statement .res_7_H := of_extended 0xBC#8 rfl rfl
theorem res_7_L : Statement .res_7_L := of_extended 0xBD#8 rfl rfl
theorem res_7_mHL : Statement .res_7_mHL := of_extended 0xBE#8 rfl rfl
theorem res_7_A : Statement .res_7_A := of_extended 0xBF#8 rfl rfl
theorem set_0_B : Statement .set_0_B := of_extended 0xC0#8 rfl rfl
theorem set_0_C : Statement .set_0_C := of_extended 0xC1#8 rfl rfl
theorem set_0_D : Statement .set_0_D := of_extended 0xC2#8 rfl rfl
theorem set_0_E : Statement .set_0_E := of_extended 0xC3#8 rfl rfl
theorem set_0_H : Statement .set_0_H := of_extended 0xC4#8 rfl rfl
theorem set_0_L : Statement .set_0_L := of_extended 0xC5#8 rfl rfl
theorem set_0_mHL : Statement .set_0_mHL := of_extended 0xC6#8 rfl rfl
theorem set_0_A : Statement .set_0_A := of_extended 0xC7#8 rfl rfl
theorem set_1_B : Statement .set_1_B := of_extended 0xC8#8 rfl rfl
theorem set_1_C : Statement .set_1_C := of_extended 0xC9#8 rfl rfl
theorem set_1_D : Statement .set_1_D := of_extended 0xCA#8 rfl rfl
theorem set_1_E : Statement .set_1_E := of_extended 0xCB#8 rfl rfl
theorem set_1_H : Statement .set_1_H := of_extended 0xCC#8 rfl rfl
theorem set_1_L : Statement .set_1_L := of_extended 0xCD#8 rfl rfl
theorem set_1_mHL : Statement .set_1_mHL := of_extended 0xCE#8 rfl rfl
theorem set_1_A : Statement .set_1_A := of_extended 0xCF#8 rfl rfl
theorem set_2_B : Statement .set_2_B := of_extended 0xD0#8 rfl rfl
theorem set_2_C : Statement .set_2_C := of_extended 0xD1#8 rfl rfl
theorem set_2_D : Statement .set_2_D := of_extended 0xD2#8 rfl rfl
theorem set_2_E : Statement .set_2_E := of_extended 0xD3#8 rfl rfl
theorem set_2_H : Statement .set_2_H := of_extended 0xD4#8 rfl rfl
theorem set_2_L : Statement .set_2_L := of_extended 0xD5#8 rfl rfl
theorem set_2_mHL : Statement .set_2_mHL := of_extended 0xD6#8 rfl rfl
theorem set_2_A : Statement .set_2_A := of_extended 0xD7#8 rfl rfl
theorem set_3_B : Statement .set_3_B := of_extended 0xD8#8 rfl rfl
theorem set_3_C : Statement .set_3_C := of_extended 0xD9#8 rfl rfl
theorem set_3_D : Statement .set_3_D := of_extended 0xDA#8 rfl rfl
theorem set_3_E : Statement .set_3_E := of_extended 0xDB#8 rfl rfl
theorem set_3_H : Statement .set_3_H := of_extended 0xDC#8 rfl rfl
theorem set_3_L : Statement .set_3_L := of_extended 0xDD#8 rfl rfl
theorem set_3_mHL : Statement .set_3_mHL := of_extended 0xDE#8 rfl rfl
theorem set_3_A : Statement .set_3_A := of_extended 0xDF#8 rfl rfl
theorem set_4_B : Statement .set_4_B := of_extended 0xE0#8 rfl rfl
theorem set_4_C : Statement .set_4_C := of_extended 0xE1#8 rfl rfl
theorem set_4_D : Statement .set_4_D := of_extended 0xE2#8 rfl rfl
theorem set_4_E : Statement .set_4_E := of_extended 0xE3#8 rfl rfl
theorem set_4_H : Statement .set_4_H := of_extended 0xE4#8 rfl rfl
theorem set_4_L : Statement .set_4_L := of_extended 0xE5#8 rfl rfl
theorem set_4_mHL : Statement .set_4_mHL := of_extended 0xE6#8 rfl rfl
theorem set_4_A : Statement .set_4_A := of_extended 0xE7#8 rfl rfl
theorem set_5_B : Statement .set_5_B := of_extended 0xE8#8 rfl rfl
theorem set_5_C : Statement .set_5_C := of_extended 0xE9#8 rfl rfl
theorem set_5_D : Statement .set_5_D := of_extended 0xEA#8 rfl rfl
theorem set_5_E : Statement .set_5_E := of_extended 0xEB#8 rfl rfl
theorem set_5_H : Statement .set_5_H := of_extended 0xEC#8 rfl rfl
theorem set_5_L : Statement .set_5_L := of_extended 0xED#8 rfl rfl
theorem set_5_mHL : Statement .set_5_mHL := of_extended 0xEE#8 rfl rfl
theorem set_5_A : Statement .set_5_A := of_extended 0xEF#8 rfl rfl
theorem set_6_B : Statement .set_6_B := of_extended 0xF0#8 rfl rfl
theorem set_6_C : Statement .set_6_C := of_extended 0xF1#8 rfl rfl
theorem set_6_D : Statement .set_6_D := of_extended 0xF2#8 rfl rfl
theorem set_6_E : Statement .set_6_E := of_extended 0xF3#8 rfl rfl
theorem set_6_H : Statement .set_6_H := of_extended 0xF4#8 rfl rfl
theorem set_6_L : Statement .set_6_L := of_extended 0xF5#8 rfl rfl
theorem set_6_mHL : Statement .set_6_mHL := of_extended 0xF6#8 rfl rfl
theorem set_6_A : Statement .set_6_A := of_extended 0xF7#8 rfl rfl
theorem set_7_B : Statement .set_7_B := of_extended 0xF8#8 rfl rfl
theorem set_7_C : Statement .set_7_C := of_extended 0xF9#8 rfl rfl
theorem set_7_D : Statement .set_7_D := of_extended 0xFA#8 rfl rfl
theorem set_7_E : Statement .set_7_E := of_extended 0xFB#8 rfl rfl
theorem set_7_H : Statement .set_7_H := of_extended 0xFC#8 rfl rfl
theorem set_7_L : Statement .set_7_L := of_extended 0xFD#8 rfl rfl
theorem set_7_mHL : Statement .set_7_mHL := of_extended 0xFE#8 rfl rfl
theorem set_7_A : Statement .set_7_A := of_extended 0xFF#8 rfl rfl

end Sys2Proof.Laws.Encoding
end

