-- ==== Sys2Proof/Laws/Step.lean ====
section
/-! SUPPORT. What a step can do, said once: the fetch, the decoder step, and the five ways a machine step ends. -/

namespace Sys2Proof.Machine

/-! ## Fetching -/

/-- Fetching changes PC and the count of joypad draws alone. -/
theorem State.fetched_eq (k : Nat) (s : State) :
    s.fetched k = { s with pc := (s.fetched k).pc, joypadReads := (s.fetched k).joypadReads } := by
  induction k generalizing s with
  | zero => rfl
  | succ k ih =>
    unfold State.fetched
    rw [ih]
    simp

@[simp] theorem State.fetched_regs (k : Nat) (s : State) : (s.fetched k).regs = s.regs := by rw [State.fetched_eq]
@[simp] theorem State.fetched_flags (k : Nat) (s : State) : (s.fetched k).flags = s.flags := by rw [State.fetched_eq]
@[simp] theorem State.fetched_sp (k : Nat) (s : State) : (s.fetched k).sp = s.sp := by rw [State.fetched_eq]
@[simp] theorem State.fetched_ime (k : Nat) (s : State) : (s.fetched k).ime = s.ime := by rw [State.fetched_eq]
@[simp] theorem State.fetched_eiDelay (k : Nat) (s : State) : (s.fetched k).eiDelay = s.eiDelay := by
  rw [State.fetched_eq]
@[simp] theorem State.fetched_halted (k : Nat) (s : State) : (s.fetched k).halted = s.halted := by rw [State.fetched_eq]
@[simp] theorem State.fetched_stopped (k : Nat) (s : State) : (s.fetched k).stopped = s.stopped := by
  rw [State.fetched_eq]
@[simp] theorem State.fetched_fault (k : Nat) (s : State) : (s.fetched k).fault = s.fault := by rw [State.fetched_eq]
@[simp] theorem State.fetched_timing (k : Nat) (s : State) : (s.fetched k).timing = s.timing := by rw [State.fetched_eq]
@[simp] theorem State.fetched_mem (k : Nat) (s : State) : (s.fetched k).mem = s.mem := by rw [State.fetched_eq]
@[simp] theorem State.fetched_vblankRequestsIf (k : Nat) (s : State) :
    (s.fetched k).vblankRequestsIf = s.vblankRequestsIf := by rw [State.fetched_eq]
@[simp] theorem State.fetched_inputs (k : Nat) (s : State) : (s.fetched k).inputs = s.inputs := by rw [State.fetched_eq]
@[simp] theorem State.fetched_lastCycles (k : Nat) (s : State) : (s.fetched k).lastCycles = s.lastCycles := by
  rw [State.fetched_eq]

/-- Fetching moves PC by the number of bytes. -/
@[simp] theorem State.fetched_pc (k : Nat) (s : State) : (s.fetched k).pc = s.pc + BitVec.ofNat 16 k := by
  induction k generalizing s with
  | zero => simp [State.fetched]
  | succ k ih =>
    unfold State.fetched
    rw [ih, State.afterFetch_pc]
    apply BitVec.eq_of_toNat_eq
    simp [BitVec.toNat_add]
    omega

/-- The instruction a fetch gives is the one that the bytes at PC begin. -/
theorem State.fetchInstr_instr (s : State) :
    s.fetchInstr.1 =
      decodeBytes (s.readByte s.pc) ((s.fetched 1).readByte (s.pc + 1)) ((s.fetched 2).readByte (s.pc + 1 + 1)) := by
  unfold State.fetchInstr
  dsimp only
  split
  · rename_i h
    unfold decodeBytes
    unfold instrLength at h
    cases hp : primary (s.readByte s.pc) <;> simp_all
  · split
    · rename_i h
      show decodeBytes (s.readByte s.pc) ((s.fetched 1).readByte (s.pc + 1)) 0 = _
      unfold decodeBytes
      unfold instrLength at h
      cases hp : primary (s.readByte s.pc) <;> simp_all
    · rfl

/-- The state a fetch leaves. -/
theorem State.fetchInstr_state (s : State) : s.fetchInstr.2 = s.fetched (instrLength (s.readByte s.pc)) := by
  unfold State.fetchInstr
  dsimp only
  split
  · rename_i h
    rw [h]
    rfl
  · split
    · rename_i h
      rw [h]
      rfl
    · rename_i h1 h2
      have : instrLength (s.readByte s.pc) = 3 := by
        unfold instrLength at *
        cases hp : primary (s.readByte s.pc) <;> simp_all
      rw [this]
      rfl

/-- A fetch does not look at the EI latch. -/
theorem State.fetched_setEiDelay (k : Nat) (s : State) (b : Bool) :
    ({ s with eiDelay := b } : State).fetched k = { s.fetched k with eiDelay := b } := by
  induction k generalizing s with
  | zero => rfl
  | succ k ih =>
    have : ({ s with eiDelay := b } : State).afterFetch = { s.afterFetch with eiDelay := b } := by
      unfold State.afterFetch State.afterRead
      dsimp only
      split <;> rfl
    unfold State.fetched
    rw [this, ih]

theorem State.readByte_fetched_setEiDelay (k : Nat) (s : State) (b : Bool) (a : Word) :
    (({ s with eiDelay := b } : State).fetched k).readByte a = (s.fetched k).readByte a := by
  rw [State.fetched_setEiDelay]
  rfl

/-! ## The decoder step -/

/-- No form but an illegal byte's touches the fault record. -/
theorem Form.after_fault (f : Form) (s : State) (h : ∀ k, f ≠ .illegal k) : (f.after s).fault = s.fault := by
  cases f
  case illegal k => exact absurd rfl (h k)
  all_goals try
    (simp [Form.after, State.counted, State.called, State.returned, State.memUpdated, State.withA, State.regUpdated]; done)
  all_goals (simp only [Form.after]; split <;> simp [State.counted, State.called, State.returned])

/-- The instruction at PC. -/
def State.instrAt (s : State) : Instr :=
  decodeBytes (s.readByte s.pc) ((s.fetched 1).readByte (s.pc + 1)) ((s.fetched 2).readByte (s.pc + 1 + 1))

/-- The state the instruction at PC runs in. -/
def State.atInstr (s : State) : State := { s with eiDelay := false }.fetched (instrLength (s.readByte s.pc))

theorem State.readByte_setEiDelay (s : State) (b : Bool) (a : Word) :
    ({ s with eiDelay := b } : State).readByte a = s.readByte a := rfl

/-- The fetch of a decoder step gives the instruction at PC. -/
theorem State.fetchInstr_latched (s : State) (b : Bool) : ({ s with eiDelay := b } : State).fetchInstr.1 = s.instrAt := by
  rw [State.fetchInstr_instr]
  simp only [State.readByte_fetched_setEiDelay, State.readByte_setEiDelay]
  rfl

/-- A decoder step by the instruction at PC. -/
theorem decoderStep_eq (s : State) :
    decoderStep s = completeStep s s.instrAt (.next (s.instrAt.form.after s.atInstr)) := by
  have hi := State.fetchInstr_latched s false
  have hs : ({ s with eiDelay := false } : State).fetchInstr.2 = s.atInstr := State.fetchInstr_state _
  unfold decoderStep
  generalize ({ s with eiDelay := false } : State).fetchInstr = f at *
  dsimp only
  rw [hi, hs, exec_eq]

/-- A decoder step at an instruction that is no illegal byte. -/
theorem decoderStep_run (s : State) (hf : s.fault = none) (h : ∀ k, s.instrAt.form ≠ .illegal k) :
    decoderStep s =
      .next (if s.eiDelay && s.instrAt != .di then { s.instrAt.form.after s.atInstr with ime := true }
        else s.instrAt.form.after s.atInstr) := by
  rw [decoderStep_eq]
  unfold completeStep
  dsimp only
  rw [Form.after_fault _ _ h]
  have : s.atInstr.fault = none := by simp [State.atInstr, hf]
  rw [this]

/-- An illegal byte's encoding, by the form. -/
theorem encode_of_illegal (i : Instr) :
    encode i =
      match i.form with
      | .illegal k => [k.byte]
      | _ => encode i := by
  cases i <;> rfl

/-- A decoder step at an illegal byte. -/
theorem decoderStep_illegal (s : State) (k : IllegalByte) (h : s.instrAt.form = .illegal k) :
    decoderStep s = .next { s with fault := some { pc := s.pc, bytes := [k.byte] }, lastCycles := none } := by
  have hl : instrLength (s.readByte s.pc) = 1 := by
    unfold State.instrAt decodeBytes at h
    unfold instrLength
    have hw := primary_slot (s.readByte s.pc)
    have wf1 : ∀ i : Instr, i.form = .illegal k → encode i = [k.byte] := fun i hi => by
      rw [encode_of_illegal i, hi]
    cases hp : primary (s.readByte s.pc) <;> rw [hp] at h hw <;> dsimp only [Slot] at h hw ⊢
    · have e := wf1 _ h; rw [hw] at e; simp at e
    · have e := wf1 _ h; rw [hw] at e; simp at e
    · have e := wf1 _ h; rw [extended_slot] at e; simp at e
  have hpc : s.atInstr.pc - 1 = s.pc := by
    unfold State.atInstr
    rw [hl, State.fetched_pc]
    show s.pc + 1 - 1 = s.pc
    bv_omega
  rw [decoderStep_eq, h]
  unfold completeStep
  dsimp only [Form.after, State.raiseIllegal]
  rw [hpc]

/-! ## The machine step -/

/-- The state of a machine step that runs an instruction: halted is cleared. -/
def State.awake (s : State) : State := { s with halted := false }

/-- A machine step when no fault is recorded. -/
theorem machineStep_eq {s : State} (hf : s.fault = none) :
    machineStep s =
      if s.stopped then .next { s with lastCycles := none }
      else if s.halted && s.pending == 0x00#8 then .next { s.advance idleCost with lastCycles := some idleCost }
      else if s.ime && s.pending != 0x00#8 then
        .next ((s.awake.dispatch (lowestBit s.pending)).advance dispatchCost)
      else advanceAfter (decoderStep s.awake) := by
  unfold machineStep
  split
  · rename_i r h
    rw [hf] at h
    cases h
  · rfl

/-- A machine step that gives a next state does one of five things. -/
theorem machineStep_cases {s t : State} (h : machineStep s = .next t) : s.fault = none ∧
    ((s.stopped = true ∧ t = { s with lastCycles := none }) ∨
      (s.stopped = false ∧ s.halted = true ∧ s.pending = 0x00#8 ∧
        t = { s.advance idleCost with lastCycles := some idleCost }) ∨
      (s.stopped = false ∧ s.ime = true ∧ s.pending ≠ 0x00#8 ∧
        t = (s.awake.dispatch (lowestBit s.pending)).advance dispatchCost) ∨
      (s.stopped = false ∧ ¬(s.ime = true ∧ s.pending ≠ 0x00#8) ∧ ¬(s.halted = true ∧ s.pending = 0x00#8) ∧
        (∃ k, s.awake.instrAt.form = .illegal k ∧
          t = { s.awake with fault := some { pc := s.pc, bytes := [k.byte] }, lastCycles := none })) ∨
      (s.stopped = false ∧ ¬(s.ime = true ∧ s.pending ≠ 0x00#8) ∧ ¬(s.halted = true ∧ s.pending = 0x00#8) ∧
        (∀ k, s.awake.instrAt.form ≠ .illegal k) ∧
        ∃ u n, u = (if s.eiDelay && s.awake.instrAt != .di then
            { s.awake.instrAt.form.after s.awake.atInstr with ime := true }
          else s.awake.instrAt.form.after s.awake.atInstr) ∧ u.lastCycles = some n ∧ t = u.advance n)) := by
  by_cases hf : s.fault = none
  case neg =>
    unfold machineStep at h
    split at h
    · cases h
    · rename_i h2
      exact absurd h2 hf
  case pos =>
    refine ⟨hf, ?_⟩
    rw [machineStep_eq hf] at h
    split at h
    · rename_i hs
      injection h with h
      exact .inl ⟨hs, h.symm⟩
    · rename_i hs
      simp only [Bool.not_eq_true] at hs
      refine .inr ?_
      split at h
      · rename_i hh
        simp only [Bool.and_eq_true, beq_iff_eq] at hh
        injection h with h
        exact .inl ⟨hs, hh.1, hh.2, h.symm⟩
      · rename_i hh
        simp only [Bool.and_eq_true, beq_iff_eq] at hh
        refine .inr ?_
        split at h
        · rename_i hd
          simp only [Bool.and_eq_true, bne_iff_ne] at hd
          injection h with h
          exact .inl ⟨hs, hd.1, hd.2, h.symm⟩
        · rename_i hd
          simp only [Bool.and_eq_true, bne_iff_ne] at hd
          refine .inr ?_
          by_cases hi : ∃ k, s.awake.instrAt.form = .illegal k
          · obtain ⟨k, hk⟩ := hi
            refine .inl ⟨hs, hd, hh, k, hk, ?_⟩
            rw [decoderStep_illegal s.awake _ hk] at h
            injection h with h
            exact h.symm
          · have hi : ∀ k, s.awake.instrAt.form ≠ .illegal k := fun k hk => hi ⟨k, hk⟩
            refine .inr ⟨hs, hd, hh, hi, ?_⟩
            rw [decoderStep_run s.awake hf hi] at h
            generalize hu : (if s.awake.eiDelay && s.awake.instrAt != .di then
                { s.awake.instrAt.form.after s.awake.atInstr with ime := true }
              else s.awake.instrAt.form.after s.awake.atInstr) = u at h
            unfold advanceAfter at h
            dsimp only at h
            have hc : ∃ n, u.lastCycles = some n := by
              have : ∀ (f : Form) (x : State), (∀ k, f ≠ .illegal k) → ∃ n, (f.after x).lastCycles = some n := by
                intro f x hx
                cases f
                case illegal k => exact absurd rfl (hx k)
                all_goals try exact ⟨_, rfl⟩
                all_goals (simp only [Form.after]; split <;> exact ⟨_, rfl⟩)
              obtain ⟨n, hn⟩ := this _ s.awake.atInstr hi
              refine ⟨n, ?_⟩
              rw [← hu]
              split <;> exact hn
            obtain ⟨n, hn⟩ := hc
            rw [hn] at h
            injection h with h
            exact ⟨u, n, hu.symm, hn, h.symm⟩

/-! ## The environment -/

@[simp] theorem State.environment_regs (s : State) : s.environment.regs = s.regs := by
  unfold State.environment; split <;> rfl
@[simp] theorem State.environment_flags (s : State) : s.environment.flags = s.flags := by
  unfold State.environment; split <;> rfl
@[simp] theorem State.environment_pc (s : State) : s.environment.pc = s.pc := by
  unfold State.environment; split <;> rfl
@[simp] theorem State.environment_sp (s : State) : s.environment.sp = s.sp := by
  unfold State.environment; split <;> rfl
@[simp] theorem State.environment_ime (s : State) : s.environment.ime = s.ime := by
  unfold State.environment; split <;> rfl
@[simp] theorem State.environment_eiDelay (s : State) : s.environment.eiDelay = s.eiDelay := by
  unfold State.environment; split <;> rfl
@[simp] theorem State.environment_halted (s : State) : s.environment.halted = s.halted := by
  unfold State.environment; split <;> rfl
@[simp] theorem State.environment_fault (s : State) : s.environment.fault = s.fault := by
  unfold State.environment; split <;> rfl
@[simp] theorem State.environment_timing (s : State) : s.environment.timing = s.timing := by
  unfold State.environment; split <;> rfl
@[simp] theorem State.environment_vblankRequestsIf (s : State) : s.environment.vblankRequestsIf = s.vblankRequestsIf := by
  unfold State.environment; split <;> rfl
@[simp] theorem State.environment_joypadReads (s : State) : s.environment.joypadReads = s.joypadReads := by
  unfold State.environment; split <;> rfl
@[simp] theorem State.environment_lastCycles (s : State) : s.environment.lastCycles = s.lastCycles := by
  unfold State.environment; split <;> rfl

/-- Without input the environment does nothing. -/
theorem State.environment_nil {s : State} (h : s.inputs = []) : s.environment = s := by
  unfold State.environment
  rw [h]

/-- An input sets the requested bits of IF, and clears `stopped` exactly when it wakes. -/
theorem State.environment_cons {s : State} {e : EnvInput} {rest : List EnvInput} (h : s.inputs = e :: rest) :
    s.environment =
      { s with
        mem := s.mem.set 0xFF0F (s.readByte 0xFF0F#16 ||| e.requests.setWidth 8), inputs := rest,
        stopped := s.stopped && !e.wake } := by
  unfold State.environment
  rw [h]
  rfl

/-- The environment never stops a core. -/
theorem State.environment_stopped {s : State} (h : s.stopped = false) : s.environment.stopped = false := by
  unfold State.environment
  split
  · exact h
  · simp [h]

/-! ## Memory stays canonical -/

/-- Every form keeps the canonical form of memory. -/
theorem Form.after_wf (f : Form) {s : State} (h : s.mem.wf = true) : (f.after s).mem.wf = true := by
  cases f
  all_goals try
    (simp [Form.after, State.counted, State.withA, State.regUpdated, State.returned, State.raiseIllegal, h]; done)
  all_goals try exact State.writeByte_wf h _ _
  all_goals try exact State.writeByte_wf (s := s.afterRead s.hl) (by simp [h]) _ _
  all_goals try exact State.writeWord_wf h _ _
  all_goals try exact State.push16_wf h _
  all_goals simp only [Form.after]
  all_goals split
  all_goals first
    | exact State.push16_wf h _
    | exact h
    | simp [State.counted, State.returned, h]

end Sys2Proof.Machine
end

