-- ==== Sys2Proof/Laws/Timing.lean ====
section
/-! SUPPORT. The laws of the pixel-timing controller: enough turns are enough, an advance splits anywhere, the frame
count never falls, one cycle at a time, and a legal controller stays legal. -/

namespace Sys2Proof.Machine

theorem TimingMode.duration_pos (m : TimingMode) : 80 ≤ m.duration := by cases m <;> decide

/-- The counter moved up, with no transition. -/
def Timing.add (t : Timing) (n : Nat) : Timing := { t with modeCycles := t.modeCycles + n }

@[simp] theorem Timing.add_mode (t : Timing) (n : Nat) : (t.add n).mode = t.mode := rfl
@[simp] theorem Timing.add_scanline (t : Timing) (n : Nat) : (t.add n).scanline = t.scanline := rfl
@[simp] theorem Timing.add_framesReady (t : Timing) (n : Nat) : (t.add n).framesReady = t.framesReady := rfl
@[simp] theorem Timing.add_modeCycles (t : Timing) (n : Nat) : (t.add n).modeCycles = t.modeCycles + n := rfl
theorem Timing.add_add (t : Timing) (m n : Nat) : (t.add m).add n = t.add (m + n) := by
  simp [Timing.add, Nat.add_assoc]

theorem Timing.advance_def (t : Timing) (n : Nat) : t.advance n = Timing.settle (t.modeCycles + n) (t.add n) := rfl

/-- A transition takes the old mode's duration off the counter. -/
@[simp] theorem Timing.transition_modeCycles (t : Timing) : t.transition.modeCycles = t.modeCycles - t.mode.duration := by
  unfold Timing.transition
  dsimp only
  repeat' split
  all_goals rfl

/-- A transition out of a mode that is over keeps what was added. -/
theorem Timing.transition_add (t : Timing) (n : Nat) (h : t.mode.duration ≤ t.modeCycles) :
    (t.add n).transition = t.transition.add n := by
  have e : t.modeCycles + n - t.mode.duration = t.modeCycles - t.mode.duration + n := by omega
  unfold Timing.transition Timing.add
  dsimp only
  rw [e]
  repeat' split
  all_goals rfl

theorem Timing.settle_succ (k : Nat) (t : Timing) :
    Timing.settle (k + 1) t = if t.modeCycles ≥ t.mode.duration then Timing.settle k t.transition else t := rfl

/-- As many turns as the counter has cycles are as good as more. -/
theorem Timing.settle_enough (k : Nat) : ∀ (j : Nat) (t : Timing), t.modeCycles ≤ j → t.modeCycles ≤ k →
    Timing.settle j t = Timing.settle k t := by
  induction k with
  | zero =>
    intro j t hj hk
    have := t.mode.duration_pos
    cases j with
    | zero => rfl
    | succ j =>
      unfold Timing.settle
      rw [if_neg (by omega)]
  | succ k ih =>
    intro j t hj hk
    have := t.mode.duration_pos
    cases j with
    | zero =>
      unfold Timing.settle
      rw [if_neg (by omega)]
    | succ j =>
      unfold Timing.settle
      split
      · rename_i hd
        exact ih j _ (by simp; omega) (by simp; omega)
      · rfl

/-- Settling first and then adding is the same as adding first. -/
theorem Timing.settle_add (k : Nat) : ∀ (t : Timing) (n : Nat),
    Timing.settle ((Timing.settle k t).modeCycles + n) ((Timing.settle k t).add n) =
      Timing.settle (t.modeCycles + n) (t.add n) := by
  induction k with
  | zero => intros; rfl
  | succ k ih =>
    intro t n
    rw [Timing.settle_succ]
    split
    · rename_i hd
      rw [ih]
      conv => rhs; rw [Timing.settle_enough (t.modeCycles + n + 1) _ _ (by simp) (by simp)]
      rw [Timing.settle_succ, if_pos (by simp; omega), Timing.transition_add _ _ hd]
      exact Timing.settle_enough _ _ _ (by simp) (by simp)
    · rfl

/-- Two advances are one advance by the sum. -/
theorem Timing.advance_advance (t : Timing) (m n : Nat) : (t.advance m).advance n = t.advance (m + n) := by
  rw [Timing.advance_def t m, Timing.advance_def, Timing.settle_add, Timing.add_add, Timing.advance_def t (m + n)]
  simp [Nat.add_assoc]

/-- An advance that does not reach the mode's end only moves the counter. -/
theorem Timing.advance_within (t : Timing) (n : Nat) (h : t.modeCycles + n < t.mode.duration) :
    t.advance n = t.add n := by
  rw [Timing.advance_def]
  cases t.modeCycles + n with
  | zero => rfl
  | succ k =>
    unfold Timing.settle
    rw [if_neg (by simp; omega)]

/-- An advance that reaches the mode's end makes the transition with the excess kept. -/
theorem Timing.advance_across (t : Timing) (n : Nat) (h : t.mode.duration ≤ t.modeCycles + n)
    (h2 : t.modeCycles + n - t.mode.duration < 80) : t.advance n = (t.add n).transition := by
  have := t.mode.duration_pos
  rw [Timing.advance_def]
  obtain ⟨k, hk⟩ : ∃ k, t.modeCycles + n = k + 1 := ⟨t.modeCycles + n - 1, by omega⟩
  rw [hk]
  unfold Timing.settle
  rw [if_pos (by simp; omega)]
  cases k with
  | zero => rfl
  | succ k =>
    have := (t.add n).transition.mode.duration_pos
    unfold Timing.settle
    rw [if_neg (by simp; omega)]

theorem Timing.advance_zero (t : Timing) (h : t.modeCycles < t.mode.duration) : t.advance 0 = t :=
  (Timing.advance_within t 0 h).trans rfl

/-- The frame count never falls at a transition. -/
theorem Timing.transition_framesReady (t : Timing) : t.framesReady ≤ t.transition.framesReady := by
  unfold Timing.transition
  dsimp only
  repeat' split
  all_goals simp

theorem Timing.settle_framesReady (k : Nat) (t : Timing) : t.framesReady ≤ (Timing.settle k t).framesReady := by
  induction k generalizing t with
  | zero => simp [Timing.settle]
  | succ k ih =>
    unfold Timing.settle
    split
    · exact Nat.le_trans t.transition_framesReady (ih _)
    · exact Nat.le_refl _

/-- The frame count never falls. -/
theorem Timing.advance_framesReady (t : Timing) (n : Nat) : t.framesReady ≤ (t.advance n).framesReady :=
  Timing.settle_framesReady _ (t.add n)

/-- The scanline lies in the range of the mode. -/
def Timing.inFrame (t : Timing) : Prop :=
  match t.mode with
  | .vBlank => 143 ≤ t.scanline ∧ t.scanline ≤ 153
  | .oamScan | .vramRead | .hBlank => t.scanline < 143

theorem Timing.legal_iff (t : Timing) : t.legal = true ↔ t.modeCycles < t.mode.duration ∧ t.inFrame := by
  unfold Timing.legal Timing.inFrame
  cases t.mode <;> simp

/-- A transition keeps the scanline in the range of the mode. -/
theorem Timing.transition_inFrame {t : Timing} (h : t.inFrame) : t.transition.inFrame := by
  unfold Timing.transition
  unfold Timing.inFrame at h
  dsimp only
  cases hm : t.mode <;> rw [hm] at h <;> dsimp only at h ⊢
  case oamScan => exact h
  case vramRead => exact h
  case hBlank =>
    split
    · rename_i he
      simp only [vBlankLine] at he
      show 143 ≤ t.scanline + 1 ∧ t.scanline + 1 ≤ 153
      omega
    · rename_i he
      simp only [vBlankLine] at he
      show t.scanline + 1 < 143
      omega
  case vBlank =>
    split
    · show 0 < 143
      omega
    · rename_i he
      simp only [lastLine] at he
      unfold Timing.inFrame
      dsimp only
      show 143 ≤ t.scanline + 1 ∧ t.scanline + 1 ≤ 153
      omega

theorem Timing.settle_inFrame (k : Nat) {t : Timing} (h : t.inFrame) : (Timing.settle k t).inFrame := by
  induction k generalizing t with
  | zero => exact h
  | succ k ih =>
    unfold Timing.settle
    split
    · exact ih (Timing.transition_inFrame h)
    · exact h

/-- With enough turns the counter ends below the mode's duration. -/
theorem Timing.settle_below (k : Nat) : ∀ t : Timing, t.modeCycles ≤ k →
    (Timing.settle k t).modeCycles < (Timing.settle k t).mode.duration := by
  induction k with
  | zero =>
    intro t h
    have := t.mode.duration_pos
    show t.modeCycles < t.mode.duration
    omega
  | succ k ih =>
    intro t h
    have := t.mode.duration_pos
    unfold Timing.settle
    split
    · exact ih _ (by simp; omega)
    · omega

/-- A controller with its scanline in range is legal after any advance. -/
theorem Timing.advance_legal {t : Timing} (h : t.inFrame) (n : Nat) : (t.advance n).legal = true :=
  (Timing.legal_iff _).2 ⟨Timing.settle_below _ _ (by simp), Timing.settle_inFrame _ h⟩

/-- What an advance does to the whole state when V-blank is not to be requested. -/
theorem State.advance_plain (s : State) (n : Nat)
    (h : s.vblankRequestsIf = false ∨ (s.timing.advance n).framesReady = s.timing.framesReady) :
    s.advance n = { s with timing := s.timing.advance n } := by
  unfold State.advance
  dsimp only
  rw [if_neg]
  obtain h | h := h <;> simp [h]

/-- What an advance does to the whole state when V-blank requests an interrupt. -/
theorem State.advance_request (s : State) (n : Nat) (h : s.vblankRequestsIf = true)
    (h2 : (s.timing.advance n).framesReady ≠ s.timing.framesReady) :
    s.advance n = State.requestInterrupts { s with timing := s.timing.advance n } 1#5 := by
  unfold State.advance
  dsimp only
  rw [if_pos (by simp [h, h2])]

end Sys2Proof.Machine
end

