-- ==== Sys2Proof/Tests/Slice0.lean ====
section
/-! SUPPORT. The model's own tests. Expected results are the vectors of spec/95_test_vectors.md, named after their ids, and
the encodings of spec/opcode_table.json. The last part shows a state that meets the hypotheses of each statement. -/

namespace Sys2Proof.Tests

open Sys2Proof.Machine

/-! ## WellFormed -/

/-- An illegal byte's row is refused by the check of well-formedness (R95, R96). -/
theorem test_wf_refuses_illegal_rows :
    Instr.illegal_D3.wf = false ∧ Instr.illegal_DB.wf = false ∧ Instr.illegal_DD.wf = false ∧
      Instr.illegal_E3.wf = false ∧ Instr.illegal_E4.wf = false ∧ Instr.illegal_EB.wf = false ∧
      Instr.illegal_EC.wf = false ∧ Instr.illegal_ED.wf = false ∧ Instr.illegal_F4.wf = false ∧
      Instr.illegal_FC.wf = false ∧ Instr.illegal_FD.wf = false := by decide

/-- An instruction with a handler is well-formed. -/
theorem test_wf_accepts_handlers : Instr.nop.wf = true ∧ (Instr.stop 0xCB#8).wf = true ∧ Instr.set_7_A.wf = true := by
  decide

/-! ## Decoding: every row's word, from the table's match column and the operand layout of R80 -/

theorem test_decode_row_0 :
    decode [0x00#8] = .ok (.nop, []) ∧
    decode [0x01#8, 0x34#8, 0x12#8] = .ok (.ld_BC_d16 0x1234#16, []) ∧
    decode [0x02#8] = .ok (.ld_mBC_A, []) ∧
    decode [0x03#8] = .ok (.inc_BC, []) ∧
    decode [0x04#8] = .ok (.inc_B, []) ∧
    decode [0x05#8] = .ok (.dec_B, []) ∧
    decode [0x06#8, 0x9A#8] = .ok (.ld_B_d8 0x9A#8, []) ∧
    decode [0x07#8] = .ok (.rlca, []) ∧
    decode [0x08#8, 0x34#8, 0x12#8] = .ok (.ld_ma16_SP 0x1234#16, []) ∧
    decode [0x09#8] = .ok (.add_HL_BC, []) ∧
    decode [0x0A#8] = .ok (.ld_A_mBC, []) ∧
    decode [0x0B#8] = .ok (.dec_BC, []) ∧
    decode [0x0C#8] = .ok (.inc_C, []) ∧
    decode [0x0D#8] = .ok (.dec_C, []) ∧
    decode [0x0E#8, 0x9A#8] = .ok (.ld_C_d8 0x9A#8, []) ∧
    decode [0x0F#8] = .ok (.rrca, []) := by
  refine ⟨rfl, rfl, rfl, rfl, rfl, rfl, rfl, rfl, rfl, rfl, rfl, rfl, rfl, rfl, rfl, rfl⟩

theorem test_decode_row_1 :
    decode [0x10#8, 0x9A#8] = .ok (.stop 0x9A#8, []) ∧
    decode [0x11#8, 0x34#8, 0x12#8] = .ok (.ld_DE_d16 0x1234#16, []) ∧
    decode [0x12#8] = .ok (.ld_mDE_A, []) ∧
    decode [0x13#8] = .ok (.inc_DE, []) ∧
    decode [0x14#8] = .ok (.inc_D, []) ∧
    decode [0x15#8] = .ok (.dec_D, []) ∧
    decode [0x16#8, 0x9A#8] = .ok (.ld_D_d8 0x9A#8, []) ∧
    decode [0x17#8] = .ok (.rla, []) ∧
    decode [0x18#8, 0x9A#8] = .ok (.jr_e8 0x9A#8, []) ∧
    decode [0x19#8] = .ok (.add_HL_DE, []) ∧
    decode [0x1A#8] = .ok (.ld_A_mDE, []) ∧
    decode [0x1B#8] = .ok (.dec_DE, []) ∧
    decode [0x1C#8] = .ok (.inc_E, []) ∧
    decode [0x1D#8] = .ok (.dec_E, []) ∧
    decode [0x1E#8, 0x9A#8] = .ok (.ld_E_d8 0x9A#8, []) ∧
    decode [0x1F#8] = .ok (.rra, []) := by
  refine ⟨rfl, rfl, rfl, rfl, rfl, rfl, rfl, rfl, rfl, rfl, rfl, rfl, rfl, rfl, rfl, rfl⟩

theorem test_decode_row_2 :
    decode [0x20#8, 0x9A#8] = .ok (.jr_NZ_e8 0x9A#8, []) ∧
    decode [0x21#8, 0x34#8, 0x12#8] = .ok (.ld_HL_d16 0x1234#16, []) ∧
    decode [0x22#8] = .ok (.ld_mHLi_A, []) ∧
    decode [0x23#8] = .ok (.inc_HL, []) ∧
    decode [0x24#8] = .ok (.inc_H, []) ∧
    decode [0x25#8] = .ok (.dec_H, []) ∧
    decode [0x26#8, 0x9A#8] = .ok (.ld_H_d8 0x9A#8, []) ∧
    decode [0x27#8] = .ok (.daa, []) ∧
    decode [0x28#8, 0x9A#8] = .ok (.jr_Z_e8 0x9A#8, []) ∧
    decode [0x29#8] = .ok (.add_HL_HL, []) ∧
    decode [0x2A#8] = .ok (.ld_A_mHLi, []) ∧
    decode [0x2B#8] = .ok (.dec_HL, []) ∧
    decode [0x2C#8] = .ok (.inc_L, []) ∧
    decode [0x2D#8] = .ok (.dec_L, []) ∧
    decode [0x2E#8, 0x9A#8] = .ok (.ld_L_d8 0x9A#8, []) ∧
    decode [0x2F#8] = .ok (.cpl, []) := by
  refine ⟨rfl, rfl, rfl, rfl, rfl, rfl, rfl, rfl, rfl, rfl, rfl, rfl, rfl, rfl, rfl, rfl⟩

theorem test_decode_row_3 :
    decode [0x30#8, 0x9A#8] = .ok (.jr_NC_e8 0x9A#8, []) ∧
    decode [0x31#8, 0x34#8, 0x12#8] = .ok (.ld_SP_d16 0x1234#16, []) ∧
    decode [0x32#8] = .ok (.ld_mHLd_A, []) ∧
    decode [0x33#8] = .ok (.inc_SP, []) ∧
    decode [0x34#8] = .ok (.inc_mHL, []) ∧
    decode [0x35#8] = .ok (.dec_mHL, []) ∧
    decode [0x36#8, 0x9A#8] = .ok (.ld_mHL_d8 0x9A#8, []) ∧
    decode [0x37#8] = .ok (.scf, []) ∧
    decode [0x38#8, 0x9A#8] = .ok (.jr_C_e8 0x9A#8, []) ∧
    decode [0x39#8] = .ok (.add_HL_SP, []) ∧
    decode [0x3A#8] = .ok (.ld_A_mHLd, []) ∧
    decode [0x3B#8] = .ok (.dec_SP, []) ∧
    decode [0x3C#8] = .ok (.inc_A, []) ∧
    decode [0x3D#8] = .ok (.dec_A, []) ∧
    decode [0x3E#8, 0x9A#8] = .ok (.ld_A_d8 0x9A#8, []) ∧
    decode [0x3F#8] = .ok (.ccf, []) := by
  refine ⟨rfl, rfl, rfl, rfl, rfl, rfl, rfl, rfl, rfl, rfl, rfl, rfl, rfl, rfl, rfl, rfl⟩

theorem test_decode_row_4 :
    decode [0x40#8] = .ok (.ld_B_B, []) ∧
    decode [0x41#8] = .ok (.ld_B_C, []) ∧
    decode [0x42#8] = .ok (.ld_B_D, []) ∧
    decode [0x43#8] = .ok (.ld_B_E, []) ∧
    decode [0x44#8] = .ok (.ld_B_H, []) ∧
    decode [0x45#8] = .ok (.ld_B_L, []) ∧
    decode [0x46#8] = .ok (.ld_B_mHL, []) ∧
    decode [0x47#8] = .ok (.ld_B_A, []) ∧
    decode [0x48#8] = .ok (.ld_C_B, []) ∧
    decode [0x49#8] = .ok (.ld_C_C, []) ∧
    decode [0x4A#8] = .ok (.ld_C_D, []) ∧
    decode [0x4B#8] = .ok (.ld_C_E, []) ∧
    decode [0x4C#8] = .ok (.ld_C_H, []) ∧
    decode [0x4D#8] = .ok (.ld_C_L, []) ∧
    decode [0x4E#8] = .ok (.ld_C_mHL, []) ∧
    decode [0x4F#8] = .ok (.ld_C_A, []) := by
  refine ⟨rfl, rfl, rfl, rfl, rfl, rfl, rfl, rfl, rfl, rfl, rfl, rfl, rfl, rfl, rfl, rfl⟩

theorem test_decode_row_5 :
    decode [0x50#8] = .ok (.ld_D_B, []) ∧
    decode [0x51#8] = .ok (.ld_D_C, []) ∧
    decode [0x52#8] = .ok (.ld_D_D, []) ∧
    decode [0x53#8] = .ok (.ld_D_E, []) ∧
    decode [0x54#8] = .ok (.ld_D_H, []) ∧
    decode [0x55#8] = .ok (.ld_D_L, []) ∧
    decode [0x56#8] = .ok (.ld_D_mHL, []) ∧
    decode [0x57#8] = .ok (.ld_D_A, []) ∧
    decode [0x58#8] = .ok (.ld_E_B, []) ∧
    decode [0x59#8] = .ok (.ld_E_C, []) ∧
    decode [0x5A#8] = .ok (.ld_E_D, []) ∧
    decode [0x5B#8] = .ok (.ld_E_E, []) ∧
    decode [0x5C#8] = .ok (.ld_E_H, []) ∧
    decode [0x5D#8] = .ok (.ld_E_L, []) ∧
    decode [0x5E#8] = .ok (.ld_E_mHL, []) ∧
    decode [0x5F#8] = .ok (.ld_E_A, []) := by
  refine ⟨rfl, rfl, rfl, rfl, rfl, rfl, rfl, rfl, rfl, rfl, rfl, rfl, rfl, rfl, rfl, rfl⟩

theorem test_decode_row_6 :
    decode [0x60#8] = .ok (.ld_H_B, []) ∧
    decode [0x61#8] = .ok (.ld_H_C, []) ∧
    decode [0x62#8] = .ok (.ld_H_D, []) ∧
    decode [0x63#8] = .ok (.ld_H_E, []) ∧
    decode [0x64#8] = .ok (.ld_H_H, []) ∧
    decode [0x65#8] = .ok (.ld_H_L, []) ∧
    decode [0x66#8] = .ok (.ld_H_mHL, []) ∧
    decode [0x67#8] = .ok (.ld_H_A, []) ∧
    decode [0x68#8] = .ok (.ld_L_B, []) ∧
    decode [0x69#8] = .ok (.ld_L_C, []) ∧
    decode [0x6A#8] = .ok (.ld_L_D, []) ∧
    decode [0x6B#8] = .ok (.ld_L_E, []) ∧
    decode [0x6C#8] = .ok (.ld_L_H, []) ∧
    decode [0x6D#8] = .ok (.ld_L_L, []) ∧
    decode [0x6E#8] = .ok (.ld_L_mHL, []) ∧
    decode [0x6F#8] = .ok (.ld_L_A, []) := by
  refine ⟨rfl, rfl, rfl, rfl, rfl, rfl, rfl, rfl, rfl, rfl, rfl, rfl, rfl, rfl, rfl, rfl⟩

theorem test_decode_row_7 :
    decode [0x70#8] = .ok (.ld_mHL_B, []) ∧
    decode [0x71#8] = .ok (.ld_mHL_C, []) ∧
    decode [0x72#8] = .ok (.ld_mHL_D, []) ∧
    decode [0x73#8] = .ok (.ld_mHL_E, []) ∧
    decode [0x74#8] = .ok (.ld_mHL_H, []) ∧
    decode [0x75#8] = .ok (.ld_mHL_L, []) ∧
    decode [0x76#8] = .ok (.halt, []) ∧
    decode [0x77#8] = .ok (.ld_mHL_A, []) ∧
    decode [0x78#8] = .ok (.ld_A_B, []) ∧
    decode [0x79#8] = .ok (.ld_A_C, []) ∧
    decode [0x7A#8] = .ok (.ld_A_D, []) ∧
    decode [0x7B#8] = .ok (.ld_A_E, []) ∧
    decode [0x7C#8] = .ok (.ld_A_H, []) ∧
    decode [0x7D#8] = .ok (.ld_A_L, []) ∧
    decode [0x7E#8] = .ok (.ld_A_mHL, []) ∧
    decode [0x7F#8] = .ok (.ld_A_A, []) := by
  refine ⟨rfl, rfl, rfl, rfl, rfl, rfl, rfl, rfl, rfl, rfl, rfl, rfl, rfl, rfl, rfl, rfl⟩

theorem test_decode_row_8 :
    decode [0x80#8] = .ok (.add_A_B, []) ∧
    decode [0x81#8] = .ok (.add_A_C, []) ∧
    decode [0x82#8] = .ok (.add_A_D, []) ∧
    decode [0x83#8] = .ok (.add_A_E, []) ∧
    decode [0x84#8] = .ok (.add_A_H, []) ∧
    decode [0x85#8] = .ok (.add_A_L, []) ∧
    decode [0x86#8] = .ok (.add_A_mHL, []) ∧
    decode [0x87#8] = .ok (.add_A_A, []) ∧
    decode [0x88#8] = .ok (.adc_A_B, []) ∧
    decode [0x89#8] = .ok (.adc_A_C, []) ∧
    decode [0x8A#8] = .ok (.adc_A_D, []) ∧
    decode [0x8B#8] = .ok (.adc_A_E, []) ∧
    decode [0x8C#8] = .ok (.adc_A_H, []) ∧
    decode [0x8D#8] = .ok (.adc_A_L, []) ∧
    decode [0x8E#8] = .ok (.adc_A_mHL, []) ∧
    decode [0x8F#8] = .ok (.adc_A_A, []) := by
  refine ⟨rfl, rfl, rfl, rfl, rfl, rfl, rfl, rfl, rfl, rfl, rfl, rfl, rfl, rfl, rfl, rfl⟩

theorem test_decode_row_9 :
    decode [0x90#8] = .ok (.sub_B, []) ∧
    decode [0x91#8] = .ok (.sub_C, []) ∧
    decode [0x92#8] = .ok (.sub_D, []) ∧
    decode [0x93#8] = .ok (.sub_E, []) ∧
    decode [0x94#8] = .ok (.sub_H, []) ∧
    decode [0x95#8] = .ok (.sub_L, []) ∧
    decode [0x96#8] = .ok (.sub_mHL, []) ∧
    decode [0x97#8] = .ok (.sub_A, []) ∧
    decode [0x98#8] = .ok (.sbc_A_B, []) ∧
    decode [0x99#8] = .ok (.sbc_A_C, []) ∧
    decode [0x9A#8] = .ok (.sbc_A_D, []) ∧
    decode [0x9B#8] = .ok (.sbc_A_E, []) ∧
    decode [0x9C#8] = .ok (.sbc_A_H, []) ∧
    decode [0x9D#8] = .ok (.sbc_A_L, []) ∧
    decode [0x9E#8] = .ok (.sbc_A_mHL, []) ∧
    decode [0x9F#8] = .ok (.sbc_A_A, []) := by
  refine ⟨rfl, rfl, rfl, rfl, rfl, rfl, rfl, rfl, rfl, rfl, rfl, rfl, rfl, rfl, rfl, rfl⟩

theorem test_decode_row_A :
    decode [0xA0#8] = .ok (.and_B, []) ∧
    decode [0xA1#8] = .ok (.and_C, []) ∧
    decode [0xA2#8] = .ok (.and_D, []) ∧
    decode [0xA3#8] = .ok (.and_E, []) ∧
    decode [0xA4#8] = .ok (.and_H, []) ∧
    decode [0xA5#8] = .ok (.and_L, []) ∧
    decode [0xA6#8] = .ok (.and_mHL, []) ∧
    decode [0xA7#8] = .ok (.and_A, []) ∧
    decode [0xA8#8] = .ok (.xor_B, []) ∧
    decode [0xA9#8] = .ok (.xor_C, []) ∧
    decode [0xAA#8] = .ok (.xor_D, []) ∧
    decode [0xAB#8] = .ok (.xor_E, []) ∧
    decode [0xAC#8] = .ok (.xor_H, []) ∧
    decode [0xAD#8] = .ok (.xor_L, []) ∧
    decode [0xAE#8] = .ok (.xor_mHL, []) ∧
    decode [0xAF#8] = .ok (.xor_A, []) := by
  refine ⟨rfl, rfl, rfl, rfl, rfl, rfl, rfl, rfl, rfl, rfl, rfl, rfl, rfl, rfl, rfl, rfl⟩

theorem test_decode_row_B :
    decode [0xB0#8] = .ok (.or_B, []) ∧
    decode [0xB1#8] = .ok (.or_C, []) ∧
    decode [0xB2#8] = .ok (.or_D, []) ∧
    decode [0xB3#8] = .ok (.or_E, []) ∧
    decode [0xB4#8] = .ok (.or_H, []) ∧
    decode [0xB5#8] = .ok (.or_L, []) ∧
    decode [0xB6#8] = .ok (.or_mHL, []) ∧
    decode [0xB7#8] = .ok (.or_A, []) ∧
    decode [0xB8#8] = .ok (.cp_B, []) ∧
    decode [0xB9#8] = .ok (.cp_C, []) ∧
    decode [0xBA#8] = .ok (.cp_D, []) ∧
    decode [0xBB#8] = .ok (.cp_E, []) ∧
    decode [0xBC#8] = .ok (.cp_H, []) ∧
    decode [0xBD#8] = .ok (.cp_L, []) ∧
    decode [0xBE#8] = .ok (.cp_mHL, []) ∧
    decode [0xBF#8] = .ok (.cp_A, []) := by
  refine ⟨rfl, rfl, rfl, rfl, rfl, rfl, rfl, rfl, rfl, rfl, rfl, rfl, rfl, rfl, rfl, rfl⟩

theorem test_decode_row_C :
    decode [0xC0#8] = .ok (.ret_NZ, []) ∧
    decode [0xC1#8] = .ok (.pop_BC, []) ∧
    decode [0xC2#8, 0x34#8, 0x12#8] = .ok (.jp_NZ_a16 0x1234#16, []) ∧
    decode [0xC3#8, 0x34#8, 0x12#8] = .ok (.jp_a16 0x1234#16, []) ∧
    decode [0xC4#8, 0x34#8, 0x12#8] = .ok (.call_NZ_a16 0x1234#16, []) ∧
    decode [0xC5#8] = .ok (.push_BC, []) ∧
    decode [0xC6#8, 0x9A#8] = .ok (.add_A_d8 0x9A#8, []) ∧
    decode [0xC7#8] = .ok (.rst_00, []) ∧
    decode [0xC8#8] = .ok (.ret_Z, []) ∧
    decode [0xC9#8] = .ok (.ret, []) ∧
    decode [0xCA#8, 0x34#8, 0x12#8] = .ok (.jp_Z_a16 0x1234#16, []) ∧
    decode [0xCC#8, 0x34#8, 0x12#8] = .ok (.call_Z_a16 0x1234#16, []) ∧
    decode [0xCD#8, 0x34#8, 0x12#8] = .ok (.call_a16 0x1234#16, []) ∧
    decode [0xCE#8, 0x9A#8] = .ok (.adc_A_d8 0x9A#8, []) ∧
    decode [0xCF#8] = .ok (.rst_08, []) := by
  refine ⟨rfl, rfl, rfl, rfl, rfl, rfl, rfl, rfl, rfl, rfl, rfl, rfl, rfl, rfl, rfl⟩

theorem test_decode_row_D :
    decode [0xD0#8] = .ok (.ret_NC, []) ∧
    decode [0xD1#8] = .ok (.pop_DE, []) ∧
    decode [0xD2#8, 0x34#8, 0x12#8] = .ok (.jp_NC_a16 0x1234#16, []) ∧
    decode [0xD3#8] = .ok (.illegal_D3, []) ∧
    decode [0xD4#8, 0x34#8, 0x12#8] = .ok (.call_NC_a16 0x1234#16, []) ∧
    decode [0xD5#8] = .ok (.push_DE, []) ∧
    decode [0xD6#8, 0x9A#8] = .ok (.sub_d8 0x9A#8, []) ∧
    decode [0xD7#8] = .ok (.rst_10, []) ∧
    decode [0xD8#8] = .ok (.ret_C, []) ∧
    decode [0xD9#8] = .ok (.reti, []) ∧
    decode [0xDA#8, 0x34#8, 0x12#8] = .ok (.jp_C_a16 0x1234#16, []) ∧
    decode [0xDB#8] = .ok (.illegal_DB, []) ∧
    decode [0xDC#8, 0x34#8, 0x12#8] = .ok (.call_C_a16 0x1234#16, []) ∧
    decode [0xDD#8] = .ok (.illegal_DD, []) ∧
    decode [0xDE#8, 0x9A#8] = .ok (.sbc_A_d8 0x9A#8, []) ∧
    decode [0xDF#8] = .ok (.rst_18, []) := by
  refine ⟨rfl, rfl, rfl, rfl, rfl, rfl, rfl, rfl, rfl, rfl, rfl, rfl, rfl, rfl, rfl, rfl⟩

theorem test_decode_row_E :
    decode [0xE0#8, 0x9A#8] = .ok (.ldh_ma8_A 0x9A#8, []) ∧
    decode [0xE1#8] = .ok (.pop_HL, []) ∧
    decode [0xE2#8] = .ok (.ld_mC_A, []) ∧
    decode [0xE3#8] = .ok (.illegal_E3, []) ∧
    decode [0xE4#8] = .ok (.illegal_E4, []) ∧
    decode [0xE5#8] = .ok (.push_HL, []) ∧
    decode [0xE6#8, 0x9A#8] = .ok (.and_d8 0x9A#8, []) ∧
    decode [0xE7#8] = .ok (.rst_20, []) ∧
    decode [0xE8#8, 0x9A#8] = .ok (.add_SP_e8 0x9A#8, []) ∧
    decode [0xE9#8] = .ok (.jp_HL, []) ∧
    decode [0xEA#8, 0x34#8, 0x12#8] = .ok (.ld_ma16_A 0x1234#16, []) ∧
    decode [0xEB#8] = .ok (.illegal_EB, []) ∧
    decode [0xEC#8] = .ok (.illegal_EC, []) ∧
    decode [0xED#8] = .ok (.illegal_ED, []) ∧
    decode [0xEE#8, 0x9A#8] = .ok (.xor_d8 0x9A#8, []) ∧
    decode [0xEF#8] = .ok (.rst_28, []) := by
  refine ⟨rfl, rfl, rfl, rfl, rfl, rfl, rfl, rfl, rfl, rfl, rfl, rfl, rfl, rfl, rfl, rfl⟩

theorem test_decode_row_F :
    decode [0xF0#8, 0x9A#8] = .ok (.ldh_A_ma8 0x9A#8, []) ∧
    decode [0xF1#8] = .ok (.pop_AF, []) ∧
    decode [0xF2#8] = .ok (.ld_A_mC, []) ∧
    decode [0xF3#8] = .ok (.di, []) ∧
    decode [0xF4#8] = .ok (.illegal_F4, []) ∧
    decode [0xF5#8] = .ok (.push_AF, []) ∧
    decode [0xF6#8, 0x9A#8] = .ok (.or_d8 0x9A#8, []) ∧
    decode [0xF7#8] = .ok (.rst_30, []) ∧
    decode [0xF8#8, 0x9A#8] = .ok (.ld_HL_SPe8 0x9A#8, []) ∧
    decode [0xF9#8] = .ok (.ld_SP_HL, []) ∧
    decode [0xFA#8, 0x34#8, 0x12#8] = .ok (.ld_A_ma16 0x1234#16, []) ∧
    decode [0xFB#8] = .ok (.ei, []) ∧
    decode [0xFC#8] = .ok (.illegal_FC, []) ∧
    decode [0xFD#8] = .ok (.illegal_FD, []) ∧
    decode [0xFE#8, 0x9A#8] = .ok (.cp_d8 0x9A#8, []) ∧
    decode [0xFF#8] = .ok (.rst_38, []) := by
  refine ⟨rfl, rfl, rfl, rfl, rfl, rfl, rfl, rfl, rfl, rfl, rfl, rfl, rfl, rfl, rfl, rfl⟩

theorem test_decode_row_CB_0 :
    decode [0xCB#8, 0x00#8] = .ok (.rlc_B, []) ∧
    decode [0xCB#8, 0x01#8] = .ok (.rlc_C, []) ∧
    decode [0xCB#8, 0x02#8] = .ok (.rlc_D, []) ∧
    decode [0xCB#8, 0x03#8] = .ok (.rlc_E, []) ∧
    decode [0xCB#8, 0x04#8] = .ok (.rlc_H, []) ∧
    decode [0xCB#8, 0x05#8] = .ok (.rlc_L, []) ∧
    decode [0xCB#8, 0x06#8] = .ok (.rlc_mHL, []) ∧
    decode [0xCB#8, 0x07#8] = .ok (.rlc_A, []) ∧
    decode [0xCB#8, 0x08#8] = .ok (.rrc_B, []) ∧
    decode [0xCB#8, 0x09#8] = .ok (.rrc_C, []) ∧
    decode [0xCB#8, 0x0A#8] = .ok (.rrc_D, []) ∧
    decode [0xCB#8, 0x0B#8] = .ok (.rrc_E, []) ∧
    decode [0xCB#8, 0x0C#8] = .ok (.rrc_H, []) ∧
    decode [0xCB#8, 0x0D#8] = .ok (.rrc_L, []) ∧
    decode [0xCB#8, 0x0E#8] = .ok (.rrc_mHL, []) ∧
    decode [0xCB#8, 0x0F#8] = .ok (.rrc_A, []) := by
  refine ⟨rfl, rfl, rfl, rfl, rfl, rfl, rfl, rfl, rfl, rfl, rfl, rfl, rfl, rfl, rfl, rfl⟩

theorem test_decode_row_CB_1 :
    decode [0xCB#8, 0x10#8] = .ok (.rl_B, []) ∧
    decode [0xCB#8, 0x11#8] = .ok (.rl_C, []) ∧
    decode [0xCB#8, 0x12#8] = .ok (.rl_D, []) ∧
    decode [0xCB#8, 0x13#8] = .ok (.rl_E, []) ∧
    decode [0xCB#8, 0x14#8] = .ok (.rl_H, []) ∧
    decode [0xCB#8, 0x15#8] = .ok (.rl_L, []) ∧
    decode [0xCB#8, 0x16#8] = .ok (.rl_mHL, []) ∧
    decode [0xCB#8, 0x17#8] = .ok (.rl_A, []) ∧
    decode [0xCB#8, 0x18#8] = .ok (.rr_B, []) ∧
    decode [0xCB#8, 0x19#8] = .ok (.rr_C, []) ∧
    decode [0xCB#8, 0x1A#8] = .ok (.rr_D, []) ∧
    decode [0xCB#8, 0x1B#8] = .ok (.rr_E, []) ∧
    decode [0xCB#8, 0x1C#8] = .ok (.rr_H, []) ∧
    decode [0xCB#8, 0x1D#8] = .ok (.rr_L, []) ∧
    decode [0xCB#8, 0x1E#8] = .ok (.rr_mHL, []) ∧
    decode [0xCB#8, 0x1F#8] = .ok (.rr_A, []) := by
  refine ⟨rfl, rfl, rfl, rfl, rfl, rfl, rfl, rfl, rfl, rfl, rfl, rfl, rfl, rfl, rfl, rfl⟩

theorem test_decode_row_CB_2 :
    decode [0xCB#8, 0x20#8] = .ok (.sla_B, []) ∧
    decode [0xCB#8, 0x21#8] = .ok (.sla_C, []) ∧
    decode [0xCB#8, 0x22#8] = .ok (.sla_D, []) ∧
    decode [0xCB#8, 0x23#8] = .ok (.sla_E, []) ∧
    decode [0xCB#8, 0x24#8] = .ok (.sla_H, []) ∧
    decode [0xCB#8, 0x25#8] = .ok (.sla_L, []) ∧
    decode [0xCB#8, 0x26#8] = .ok (.sla_mHL, []) ∧
    decode [0xCB#8, 0x27#8] = .ok (.sla_A, []) ∧
    decode [0xCB#8, 0x28#8] = .ok (.sra_B, []) ∧
    decode [0xCB#8, 0x29#8] = .ok (.sra_C, []) ∧
    decode [0xCB#8, 0x2A#8] = .ok (.sra_D, []) ∧
    decode [0xCB#8, 0x2B#8] = .ok (.sra_E, []) ∧
    decode [0xCB#8, 0x2C#8] = .ok (.sra_H, []) ∧
    decode [0xCB#8, 0x2D#8] = .ok (.sra_L, []) ∧
    decode [0xCB#8, 0x2E#8] = .ok (.sra_mHL, []) ∧
    decode [0xCB#8, 0x2F#8] = .ok (.sra_A, []) := by
  refine ⟨rfl, rfl, rfl, rfl, rfl, rfl, rfl, rfl, rfl, rfl, rfl, rfl, rfl, rfl, rfl, rfl⟩

theorem test_decode_row_CB_3 :
    decode [0xCB#8, 0x30#8] = .ok (.swap_B, []) ∧
    decode [0xCB#8, 0x31#8] = .ok (.swap_C, []) ∧
    decode [0xCB#8, 0x32#8] = .ok (.swap_D, []) ∧
    decode [0xCB#8, 0x33#8] = .ok (.swap_E, []) ∧
    decode [0xCB#8, 0x34#8] = .ok (.swap_H, []) ∧
    decode [0xCB#8, 0x35#8] = .ok (.swap_L, []) ∧
    decode [0xCB#8, 0x36#8] = .ok (.swap_mHL, []) ∧
    decode [0xCB#8, 0x37#8] = .ok (.swap_A, []) ∧
    decode [0xCB#8, 0x38#8] = .ok (.srl_B, []) ∧
    decode [0xCB#8, 0x39#8] = .ok (.srl_C, []) ∧
    decode [0xCB#8, 0x3A#8] = .ok (.srl_D, []) ∧
    decode [0xCB#8, 0x3B#8] = .ok (.srl_E, []) ∧
    decode [0xCB#8, 0x3C#8] = .ok (.srl_H, []) ∧
    decode [0xCB#8, 0x3D#8] = .ok (.srl_L, []) ∧
    decode [0xCB#8, 0x3E#8] = .ok (.srl_mHL, []) ∧
    decode [0xCB#8, 0x3F#8] = .ok (.srl_A, []) := by
  refine ⟨rfl, rfl, rfl, rfl, rfl, rfl, rfl, rfl, rfl, rfl, rfl, rfl, rfl, rfl, rfl, rfl⟩

theorem test_decode_row_CB_4 :
    decode [0xCB#8, 0x40#8] = .ok (.bit_0_B, []) ∧
    decode [0xCB#8, 0x41#8] = .ok (.bit_0_C, []) ∧
    decode [0xCB#8, 0x42#8] = .ok (.bit_0_D, []) ∧
    decode [0xCB#8, 0x43#8] = .ok (.bit_0_E, []) ∧
    decode [0xCB#8, 0x44#8] = .ok (.bit_0_H, []) ∧
    decode [0xCB#8, 0x45#8] = .ok (.bit_0_L, []) ∧
    decode [0xCB#8, 0x46#8] = .ok (.bit_0_mHL, []) ∧
    decode [0xCB#8, 0x47#8] = .ok (.bit_0_A, []) ∧
    decode [0xCB#8, 0x48#8] = .ok (.bit_1_B, []) ∧
    decode [0xCB#8, 0x49#8] = .ok (.bit_1_C, []) ∧
    decode [0xCB#8, 0x4A#8] = .ok (.bit_1_D, []) ∧
    decode [0xCB#8, 0x4B#8] = .ok (.bit_1_E, []) ∧
    decode [0xCB#8, 0x4C#8] = .ok (.bit_1_H, []) ∧
    decode [0xCB#8, 0x4D#8] = .ok (.bit_1_L, []) ∧
    decode [0xCB#8, 0x4E#8] = .ok (.bit_1_mHL, []) ∧
    decode [0xCB#8, 0x4F#8] = .ok (.bit_1_A, []) := by
  refine ⟨rfl, rfl, rfl, rfl, rfl, rfl, rfl, rfl, rfl, rfl, rfl, rfl, rfl, rfl, rfl, rfl⟩

theorem test_decode_row_CB_5 :
    decode [0xCB#8, 0x50#8] = .ok (.bit_2_B, []) ∧
    decode [0xCB#8, 0x51#8] = .ok (.bit_2_C, []) ∧
    decode [0xCB#8, 0x52#8] = .ok (.bit_2_D, []) ∧
    decode [0xCB#8, 0x53#8] = .ok (.bit_2_E, []) ∧
    decode [0xCB#8, 0x54#8] = .ok (.bit_2_H, []) ∧
    decode [0xCB#8, 0x55#8] = .ok (.bit_2_L, []) ∧
    decode [0xCB#8, 0x56#8] = .ok (.bit_2_mHL, []) ∧
    decode [0xCB#8, 0x57#8] = .ok (.bit_2_A, []) ∧
    decode [0xCB#8, 0x58#8] = .ok (.bit_3_B, []) ∧
    decode [0xCB#8, 0x59#8] = .ok (.bit_3_C, []) ∧
    decode [0xCB#8, 0x5A#8] = .ok (.bit_3_D, []) ∧
    decode [0xCB#8, 0x5B#8] = .ok (.bit_3_E, []) ∧
    decode [0xCB#8, 0x5C#8] = .ok (.bit_3_H, []) ∧
    decode [0xCB#8, 0x5D#8] = .ok (.bit_3_L, []) ∧
    decode [0xCB#8, 0x5E#8] = .ok (.bit_3_mHL, []) ∧
    decode [0xCB#8, 0x5F#8] = .ok (.bit_3_A, []) := by
  refine ⟨rfl, rfl, rfl, rfl, rfl, rfl, rfl, rfl, rfl, rfl, rfl, rfl, rfl, rfl, rfl, rfl⟩

theorem test_decode_row_CB_6 :
    decode [0xCB#8, 0x60#8] = .ok (.bit_4_B, []) ∧
    decode [0xCB#8, 0x61#8] = .ok (.bit_4_C, []) ∧
    decode [0xCB#8, 0x62#8] = .ok (.bit_4_D, []) ∧
    decode [0xCB#8, 0x63#8] = .ok (.bit_4_E, []) ∧
    decode [0xCB#8, 0x64#8] = .ok (.bit_4_H, []) ∧
    decode [0xCB#8, 0x65#8] = .ok (.bit_4_L, []) ∧
    decode [0xCB#8, 0x66#8] = .ok (.bit_4_mHL, []) ∧
    decode [0xCB#8, 0x67#8] = .ok (.bit_4_A, []) ∧
    decode [0xCB#8, 0x68#8] = .ok (.bit_5_B, []) ∧
    decode [0xCB#8, 0x69#8] = .ok (.bit_5_C, []) ∧
    decode [0xCB#8, 0x6A#8] = .ok (.bit_5_D, []) ∧
    decode [0xCB#8, 0x6B#8] = .ok (.bit_5_E, []) ∧
    decode [0xCB#8, 0x6C#8] = .ok (.bit_5_H, []) ∧
    decode [0xCB#8, 0x6D#8] = .ok (.bit_5_L, []) ∧
    decode [0xCB#8, 0x6E#8] = .ok (.bit_5_mHL, []) ∧
    decode [0xCB#8, 0x6F#8] = .ok (.bit_5_A, []) := by
  refine ⟨rfl, rfl, rfl, rfl, rfl, rfl, rfl, rfl, rfl, rfl, rfl, rfl, rfl, rfl, rfl, rfl⟩

theorem test_decode_row_CB_7 :
    decode [0xCB#8, 0x70#8] = .ok (.bit_6_B, []) ∧
    decode [0xCB#8, 0x71#8] = .ok (.bit_6_C, []) ∧
    decode [0xCB#8, 0x72#8] = .ok (.bit_6_D, []) ∧
    decode [0xCB#8, 0x73#8] = .ok (.bit_6_E, []) ∧
    decode [0xCB#8, 0x74#8] = .ok (.bit_6_H, []) ∧
    decode [0xCB#8, 0x75#8] = .ok (.bit_6_L, []) ∧
    decode [0xCB#8, 0x76#8] = .ok (.bit_6_mHL, []) ∧
    decode [0xCB#8, 0x77#8] = .ok (.bit_6_A, []) ∧
    decode [0xCB#8, 0x78#8] = .ok (.bit_7_B, []) ∧
    decode [0xCB#8, 0x79#8] = .ok (.bit_7_C, []) ∧
    decode [0xCB#8, 0x7A#8] = .ok (.bit_7_D, []) ∧
    decode [0xCB#8, 0x7B#8] = .ok (.bit_7_E, []) ∧
    decode [0xCB#8, 0x7C#8] = .ok (.bit_7_H, []) ∧
    decode [0xCB#8, 0x7D#8] = .ok (.bit_7_L, []) ∧
    decode [0xCB#8, 0x7E#8] = .ok (.bit_7_mHL, []) ∧
    decode [0xCB#8, 0x7F#8] = .ok (.bit_7_A, []) := by
  refine ⟨rfl, rfl, rfl, rfl, rfl, rfl, rfl, rfl, rfl, rfl, rfl, rfl, rfl, rfl, rfl, rfl⟩

theorem test_decode_row_CB_8 :
    decode [0xCB#8, 0x80#8] = .ok (.res_0_B, []) ∧
    decode [0xCB#8, 0x81#8] = .ok (.res_0_C, []) ∧
    decode [0xCB#8, 0x82#8] = .ok (.res_0_D, []) ∧
    decode [0xCB#8, 0x83#8] = .ok (.res_0_E, []) ∧
    decode [0xCB#8, 0x84#8] = .ok (.res_0_H, []) ∧
    decode [0xCB#8, 0x85#8] = .ok (.res_0_L, []) ∧
    decode [0xCB#8, 0x86#8] = .ok (.res_0_mHL, []) ∧
    decode [0xCB#8, 0x87#8] = .ok (.res_0_A, []) ∧
    decode [0xCB#8, 0x88#8] = .ok (.res_1_B, []) ∧
    decode [0xCB#8, 0x89#8] = .ok (.res_1_C, []) ∧
    decode [0xCB#8, 0x8A#8] = .ok (.res_1_D, []) ∧
    decode [0xCB#8, 0x8B#8] = .ok (.res_1_E, []) ∧
    decode [0xCB#8, 0x8C#8] = .ok (.res_1_H, []) ∧
    decode [0xCB#8, 0x8D#8] = .ok (.res_1_L, []) ∧
    decode [0xCB#8, 0x8E#8] = .ok (.res_1_mHL, []) ∧
    decode [0xCB#8, 0x8F#8] = .ok (.res_1_A, []) := by
  refine ⟨rfl, rfl, rfl, rfl, rfl, rfl, rfl, rfl, rfl, rfl, rfl, rfl, rfl, rfl, rfl, rfl⟩

theorem test_decode_row_CB_9 :
    decode [0xCB#8, 0x90#8] = .ok (.res_2_B, []) ∧
    decode [0xCB#8, 0x91#8] = .ok (.res_2_C, []) ∧
    decode [0xCB#8, 0x92#8] = .ok (.res_2_D, []) ∧
    decode [0xCB#8, 0x93#8] = .ok (.res_2_E, []) ∧
    decode [0xCB#8, 0x94#8] = .ok (.res_2_H, []) ∧
    decode [0xCB#8, 0x95#8] = .ok (.res_2_L, []) ∧
    decode [0xCB#8, 0x96#8] = .ok (.res_2_mHL, []) ∧
    decode [0xCB#8, 0x97#8] = .ok (.res_2_A, []) ∧
    decode [0xCB#8, 0x98#8] = .ok (.res_3_B, []) ∧
    decode [0xCB#8, 0x99#8] = .ok (.res_3_C, []) ∧
    decode [0xCB#8, 0x9A#8] = .ok (.res_3_D, []) ∧
    decode [0xCB#8, 0x9B#8] = .ok (.res_3_E, []) ∧
    decode [0xCB#8, 0x9C#8] = .ok (.res_3_H, []) ∧
    decode [0xCB#8, 0x9D#8] = .ok (.res_3_L, []) ∧
    decode [0xCB#8, 0x9E#8] = .ok (.res_3_mHL, []) ∧
    decode [0xCB#8, 0x9F#8] = .ok (.res_3_A, []) := by
  refine ⟨rfl, rfl, rfl, rfl, rfl, rfl, rfl, rfl, rfl, rfl, rfl, rfl, rfl, rfl, rfl, rfl⟩

theorem test_decode_row_CB_A :
    decode [0xCB#8, 0xA0#8] = .ok (.res_4_B, []) ∧
    decode [0xCB#8, 0xA1#8] = .ok (.res_4_C, []) ∧
    decode [0xCB#8, 0xA2#8] = .ok (.res_4_D, []) ∧
    decode [0xCB#8, 0xA3#8] = .ok (.res_4_E, []) ∧
    decode [0xCB#8, 0xA4#8] = .ok (.res_4_H, []) ∧
    decode [0xCB#8, 0xA5#8] = .ok (.res_4_L, []) ∧
    decode [0xCB#8, 0xA6#8] = .ok (.res_4_mHL, []) ∧
    decode [0xCB#8, 0xA7#8] = .ok (.res_4_A, []) ∧
    decode [0xCB#8, 0xA8#8] = .ok (.res_5_B, []) ∧
    decode [0xCB#8, 0xA9#8] = .ok (.res_5_C, []) ∧
    decode [0xCB#8, 0xAA#8] = .ok (.res_5_D, []) ∧
    decode [0xCB#8, 0xAB#8] = .ok (.res_5_E, []) ∧
    decode [0xCB#8, 0xAC#8] = .ok (.res_5_H, []) ∧
    decode [0xCB#8, 0xAD#8] = .ok (.res_5_L, []) ∧
    decode [0xCB#8, 0xAE#8] = .ok (.res_5_mHL, []) ∧
    decode [0xCB#8, 0xAF#8] = .ok (.res_5_A, []) := by
  refine ⟨rfl, rfl, rfl, rfl, rfl, rfl, rfl, rfl, rfl, rfl, rfl, rfl, rfl, rfl, rfl, rfl⟩

theorem test_decode_row_CB_B :
    decode [0xCB#8, 0xB0#8] = .ok (.res_6_B, []) ∧
    decode [0xCB#8, 0xB1#8] = .ok (.res_6_C, []) ∧
    decode [0xCB#8, 0xB2#8] = .ok (.res_6_D, []) ∧
    decode [0xCB#8, 0xB3#8] = .ok (.res_6_E, []) ∧
    decode [0xCB#8, 0xB4#8] = .ok (.res_6_H, []) ∧
    decode [0xCB#8, 0xB5#8] = .ok (.res_6_L, []) ∧
    decode [0xCB#8, 0xB6#8] = .ok (.res_6_mHL, []) ∧
    decode [0xCB#8, 0xB7#8] = .ok (.res_6_A, []) ∧
    decode [0xCB#8, 0xB8#8] = .ok (.res_7_B, []) ∧
    decode [0xCB#8, 0xB9#8] = .ok (.res_7_C, []) ∧
    decode [0xCB#8, 0xBA#8] = .ok (.res_7_D, []) ∧
    decode [0xCB#8, 0xBB#8] = .ok (.res_7_E, []) ∧
    decode [0xCB#8, 0xBC#8] = .ok (.res_7_H, []) ∧
    decode [0xCB#8, 0xBD#8] = .ok (.res_7_L, []) ∧
    decode [0xCB#8, 0xBE#8] = .ok (.res_7_mHL, []) ∧
    decode [0xCB#8, 0xBF#8] = .ok (.res_7_A, []) := by
  refine ⟨rfl, rfl, rfl, rfl, rfl, rfl, rfl, rfl, rfl, rfl, rfl, rfl, rfl, rfl, rfl, rfl⟩

theorem test_decode_row_CB_C :
    decode [0xCB#8, 0xC0#8] = .ok (.set_0_B, []) ∧
    decode [0xCB#8, 0xC1#8] = .ok (.set_0_C, []) ∧
    decode [0xCB#8, 0xC2#8] = .ok (.set_0_D, []) ∧
    decode [0xCB#8, 0xC3#8] = .ok (.set_0_E, []) ∧
    decode [0xCB#8, 0xC4#8] = .ok (.set_0_H, []) ∧
    decode [0xCB#8, 0xC5#8] = .ok (.set_0_L, []) ∧
    decode [0xCB#8, 0xC6#8] = .ok (.set_0_mHL, []) ∧
    decode [0xCB#8, 0xC7#8] = .ok (.set_0_A, []) ∧
    decode [0xCB#8, 0xC8#8] = .ok (.set_1_B, []) ∧
    decode [0xCB#8, 0xC9#8] = .ok (.set_1_C, []) ∧
    decode [0xCB#8, 0xCA#8] = .ok (.set_1_D, []) ∧
    decode [0xCB#8, 0xCB#8] = .ok (.set_1_E, []) ∧
    decode [0xCB#8, 0xCC#8] = .ok (.set_1_H, []) ∧
    decode [0xCB#8, 0xCD#8] = .ok (.set_1_L, []) ∧
    decode [0xCB#8, 0xCE#8] = .ok (.set_1_mHL, []) ∧
    decode [0xCB#8, 0xCF#8] = .ok (.set_1_A, []) := by
  refine ⟨rfl, rfl, rfl, rfl, rfl, rfl, rfl, rfl, rfl, rfl, rfl, rfl, rfl, rfl, rfl, rfl⟩

theorem test_decode_row_CB_D :
    decode [0xCB#8, 0xD0#8] = .ok (.set_2_B, []) ∧
    decode [0xCB#8, 0xD1#8] = .ok (.set_2_C, []) ∧
    decode [0xCB#8, 0xD2#8] = .ok (.set_2_D, []) ∧
    decode [0xCB#8, 0xD3#8] = .ok (.set_2_E, []) ∧
    decode [0xCB#8, 0xD4#8] = .ok (.set_2_H, []) ∧
    decode [0xCB#8, 0xD5#8] = .ok (.set_2_L, []) ∧
    decode [0xCB#8, 0xD6#8] = .ok (.set_2_mHL, []) ∧
    decode [0xCB#8, 0xD7#8] = .ok (.set_2_A, []) ∧
    decode [0xCB#8, 0xD8#8] = .ok (.set_3_B, []) ∧
    decode [0xCB#8, 0xD9#8] = .ok (.set_3_C, []) ∧
    decode [0xCB#8, 0xDA#8] = .ok (.set_3_D, []) ∧
    decode [0xCB#8, 0xDB#8] = .ok (.set_3_E, []) ∧
    decode [0xCB#8, 0xDC#8] = .ok (.set_3_H, []) ∧
    decode [0xCB#8, 0xDD#8] = .ok (.set_3_L, []) ∧
    decode [0xCB#8, 0xDE#8] = .ok (.set_3_mHL, []) ∧
    decode [0xCB#8, 0xDF#8] = .ok (.set_3_A, []) := by
  refine ⟨rfl, rfl, rfl, rfl, rfl, rfl, rfl, rfl, rfl, rfl, rfl, rfl, rfl, rfl, rfl, rfl⟩

theorem test_decode_row_CB_E :
    decode [0xCB#8, 0xE0#8] = .ok (.set_4_B, []) ∧
    decode [0xCB#8, 0xE1#8] = .ok (.set_4_C, []) ∧
    decode [0xCB#8, 0xE2#8] = .ok (.set_4_D, []) ∧
    decode [0xCB#8, 0xE3#8] = .ok (.set_4_E, []) ∧
    decode [0xCB#8, 0xE4#8] = .ok (.set_4_H, []) ∧
    decode [0xCB#8, 0xE5#8] = .ok (.set_4_L, []) ∧
    decode [0xCB#8, 0xE6#8] = .ok (.set_4_mHL, []) ∧
    decode [0xCB#8, 0xE7#8] = .ok (.set_4_A, []) ∧
    decode [0xCB#8, 0xE8#8] = .ok (.set_5_B, []) ∧
    decode [0xCB#8, 0xE9#8] = .ok (.set_5_C, []) ∧
    decode [0xCB#8, 0xEA#8] = .ok (.set_5_D, []) ∧
    decode [0xCB#8, 0xEB#8] = .ok (.set_5_E, []) ∧
    decode [0xCB#8, 0xEC#8] = .ok (.set_5_H, []) ∧
    decode [0xCB#8, 0xED#8] = .ok (.set_5_L, []) ∧
    decode [0xCB#8, 0xEE#8] = .ok (.set_5_mHL, []) ∧
    decode [0xCB#8, 0xEF#8] = .ok (.set_5_A, []) := by
  refine ⟨rfl, rfl, rfl, rfl, rfl, rfl, rfl, rfl, rfl, rfl, rfl, rfl, rfl, rfl, rfl, rfl⟩

theorem test_decode_row_CB_F :
    decode [0xCB#8, 0xF0#8] = .ok (.set_6_B, []) ∧
    decode [0xCB#8, 0xF1#8] = .ok (.set_6_C, []) ∧
    decode [0xCB#8, 0xF2#8] = .ok (.set_6_D, []) ∧
    decode [0xCB#8, 0xF3#8] = .ok (.set_6_E, []) ∧
    decode [0xCB#8, 0xF4#8] = .ok (.set_6_H, []) ∧
    decode [0xCB#8, 0xF5#8] = .ok (.set_6_L, []) ∧
    decode [0xCB#8, 0xF6#8] = .ok (.set_6_mHL, []) ∧
    decode [0xCB#8, 0xF7#8] = .ok (.set_6_A, []) ∧
    decode [0xCB#8, 0xF8#8] = .ok (.set_7_B, []) ∧
    decode [0xCB#8, 0xF9#8] = .ok (.set_7_C, []) ∧
    decode [0xCB#8, 0xFA#8] = .ok (.set_7_D, []) ∧
    decode [0xCB#8, 0xFB#8] = .ok (.set_7_E, []) ∧
    decode [0xCB#8, 0xFC#8] = .ok (.set_7_H, []) ∧
    decode [0xCB#8, 0xFD#8] = .ok (.set_7_L, []) ∧
    decode [0xCB#8, 0xFE#8] = .ok (.set_7_mHL, []) ∧
    decode [0xCB#8, 0xFF#8] = .ok (.set_7_A, []) := by
  refine ⟨rfl, rfl, rfl, rfl, rfl, rfl, rfl, rfl, rfl, rfl, rfl, rfl, rfl, rfl, rfl, rfl⟩

/-- A list that ends inside an instruction decodes to none, and so does the empty list. -/
theorem test_decode_truncated :
    decode [0xC3#8, 0x50#8] = .error (.truncated 3 2) ∧ decode [0xCB#8] = .error (.truncated 2 1) ∧
      decode [] = .error .empty := by
  refine ⟨rfl, rfl, rfl⟩

/-- The opcode table's numbering: JP's first byte is the low byte, an extended row has 0xCB in its high byte (R98). -/
theorem test_decode_table_word :
    decodeTableWord 8 0xC3 = some (.jp_a16 0x0000#16) ∧ decodeTableWord 16 0xCB7C = some .bit_7_H ∧
      decodeTableWord 16 0x7CCB = some .bit_7_H := by
  refine ⟨rfl, rfl, rfl⟩

/-! ## One step on a small state -/

/-- Bytes stored from an address up, as a loader stores them. -/
def bytesAt (k : Nat) (bytes : List Nat) (s : State) : State :=
  match bytes with
  | [] => s
  | b :: rest => bytesAt (k + 1) rest (s.poke (BitVec.ofNat 16 k) (BitVec.ofNat 8 b))

/-- The check holds of the state after one step from reset with the code at 0x0100 and the state set up, and the step
returns the cycles. -/
def stepGives (setUp : State → State) (code : List Nat) (cycles : Option Nat) (check : State → Bool) : Bool :=
  match step (setUp (bytesAt 0x0100 code State.reset)) with
  | .next t => check t && t.lastCycles == cycles
  | .fault _ => false
  | .refused _ => false

/-- L1: LD B,B (R100). -/
theorem test_L1 :
    stepGives (fun s => { s with regs := { s.regs with b := 0x5A#8 }, flags := unpackFlags 0xB0#8 }) [0x40] (some 4)
      (fun t => t.regs.b == 0x5A#8 && t.flags.pack == 0xB0#8) = true := by decide

/-- L2: LD H,(HL) (R101). -/
theorem test_L2 :
    stepGives (fun s => { s.poke 0xC123#16 0x77#8 with regs := { s.regs with h := 0xC1#8, l := 0x23#8 } }) [0x66] (some 8)
      (fun t => t.pair .HL == 0x7723#16) = true := by decide

/-- L3: LD (HL),H (R102). -/
theorem test_L3 :
    stepGives (fun s => { s with regs := { s.regs with h := 0xC1#8, l := 0x23#8 } }) [0x74] (some 8)
      (fun t => t.readByte 0xC123#16 == 0xC1#8) = true := by decide

/-- L4: LD (HL),d8 into ROM (R104, R53). -/
theorem test_L4 :
    stepGives (fun s => { s with regs := { s.regs with h := 0x02#8, l := 0x00#8 } }) [0x36, 0x99] (some 12)
      (fun t => t.readByte 0x0200#16 == 0x00#8) = true := by decide

/-- L5: LD A,(HL+) (R111). -/
theorem test_L5 :
    stepGives (fun s => { s.poke 0xFFFF#16 0x1F#8 with regs := { s.regs with h := 0xFF#8, l := 0xFF#8 } }) [0x2A] (some 8)
      (fun t => t.regs.a == 0x1F#8 && t.pair .HL == 0x0000#16) = true := by decide

/-- L6: LD (HL-),A (R110). -/
theorem test_L6 :
    stepGives (fun s => { s with regs := { s.regs with h := 0x00#8, l := 0x00#8, a := 0x42#8 } }) [0x32] (some 8)
      (fun t => t.pair .HL == 0xFFFF#16 && t.readByte 0x0000#16 == 0x00#8) = true := by decide

/-- L7: LD (a16),SP (R120). -/
theorem test_L7 :
    stepGives (fun s => { s with sp := 0xABCD#16 }) [0x08, 0x00, 0xC0] (some 20)
      (fun t => t.readByte 0xC000#16 == 0xCD#8 && t.readByte 0xC001#16 == 0xAB#8) = true := by decide

/-- L8: LDH (a8),A (R115). -/
theorem test_L8 :
    stepGives (fun s => { s with regs := { s.regs with a := 0x33#8 } }) [0xE0, 0x80] (some 12)
      (fun t => t.readByte 0xFF80#16 == 0x33#8) = true := by decide

/-- L9: LDH A,(a8) at line 0 (R116, R62). -/
theorem test_L9 :
    stepGives id [0xF0, 0x44] (some 12) (fun t => t.regs.a == 0x00#8) = true := by decide

/-- L10: LDH A,(a8) at line 5 (R116, R321). -/
theorem test_L10 :
    stepGives (fun s => { s with timing := { Timing.reset with scanline := 5 } }) [0xF0, 0x44] (some 12)
      (fun t => t.regs.a == 0x05#8) = true := by decide

/-- L11: LD (C),A to 0xFF44 (R117, R62). -/
theorem test_L11 :
    stepGives (fun s => { s with regs := { s.regs with a := 0x99#8, c := 0x44#8 } }) [0xE2] (some 8)
      (fun t => t.readByte 0xFF44#16 == 0x00#8) = true := by decide

/-- L12: LD A,(C) (R118). -/
theorem test_L12 :
    stepGives (fun s => { s.poke 0xFF80#16 0x5C#8 with regs := { s.regs with c := 0x80#8 } }) [0xF2] (some 8)
      (fun t => t.regs.a == 0x5C#8) = true := by decide

/-- L13: LD A,(a16) from ROM bank 1 (R114, R54). -/
theorem test_L13 :
    stepGives id [0xFA, 0x00, 0x40] (some 16) (fun t => t.regs.a == 0x00#8) = true := by decide

/-- L14: LD SP,HL (R121). -/
theorem test_L14 :
    stepGives (fun s => { s with regs := { s.regs with h := 0x12#8, l := 0x34#8 } }) [0xF9] (some 8)
      (fun t => t.sp == 0x1234#16) = true := by decide

/-- L15: PUSH BC (R122). -/
theorem test_L15 :
    stepGives (fun s => { s with regs := { s.regs with b := 0x12#8, c := 0x34#8 }, sp := 0xFFFE#16 }) [0xC5] (some 16)
      (fun t => t.sp == 0xFFFC#16 && t.readByte 0xFFFC#16 == 0x34#8 && t.readByte 0xFFFD#16 == 0x12#8) = true := by decide

/-- L16: POP AF (R125). -/
theorem test_L16 :
    stepGives (fun s => { (s.poke 0xC000#16 0xFF#8).poke 0xC001#16 0x12#8 with sp := 0xC000#16 }) [0xF1] (some 12)
      (fun t => t.regs.a == 0x12#8 && t.flags.pack == 0xF0#8 && t.sp == 0xC002#16) = true := by decide

/-- L17: PUSH BC over the end of the address space (R122, R67, R68). -/
theorem test_L17 :
    stepGives (fun s => { s with regs := { s.regs with b := 0xBE#8, c := 0xEF#8 }, sp := 0x0001#16 }) [0xC5] (some 16)
      (fun t => t.sp == 0xFFFF#16 && t.readByte 0xFFFF#16 == 0xEF#8 && t.readByte 0x0000#16 == 0x00#8) = true := by decide

/-- L18: POP BC over the end of the address space (R124, R66, R69). -/
theorem test_L18 :
    stepGives (fun s => { s.poke 0xFFFF#16 0x0A#8 with sp := 0xFFFF#16 }) [0xC1] (some 12)
      (fun t => t.pair .BC == 0x000A#16 && t.sp == 0x0001#16) = true := by decide

/-- A1: ADD A,B (R140, R147). -/
theorem test_A1 :
    stepGives (fun s => { s with regs := { s.regs with a := 0xFF#8, b := 0x01#8 } }) [0x80] (some 4)
      (fun t => t.regs.a == 0x00#8 && t.flags.pack == 0xB0#8) = true := by decide

/-- A2: ADD A,B, half-carry (R140, R147). -/
theorem test_A2 :
    stepGives (fun s => { s with regs := { s.regs with a := 0x08#8, b := 0x08#8 }, flags := unpackFlags 0x00#8 }) [0x80] (some 4)
      (fun t => t.regs.a == 0x10#8 && t.flags.pack == 0x20#8) = true := by decide

/-- A3: ADC A,d8 (R140, R152, C7). -/
theorem test_A3 :
    stepGives (fun s => { s with regs := { s.regs with a := 0x0F#8 }, flags := unpackFlags 0x10#8 }) [0xCE, 0x00] (some 8)
      (fun t => t.regs.a == 0x10#8 && t.flags.pack == 0x20#8) = true := by decide

/-- A4: ADC A,d8, carry (R140, R152). -/
theorem test_A4 :
    stepGives (fun s => { s with regs := { s.regs with a := 0xFF#8 }, flags := unpackFlags 0x10#8 }) [0xCE, 0x00] (some 8)
      (fun t => t.regs.a == 0x00#8 && t.flags.pack == 0xB0#8) = true := by decide

/-- A5: SUB B (R141, R153). -/
theorem test_A5 :
    stepGives (fun s => { s with regs := { s.regs with a := 0x3E#8, b := 0x3E#8 } }) [0x90] (some 4)
      (fun t => t.regs.a == 0x00#8 && t.flags.pack == 0xC0#8) = true := by decide

/-- A6: SUB B, half-borrow (R141, R153). -/
theorem test_A6 :
    stepGives (fun s => { s with regs := { s.regs with a := 0x10#8, b := 0x01#8 } }) [0x90] (some 4)
      (fun t => t.regs.a == 0x0F#8 && t.flags.pack == 0x60#8) = true := by decide

/-- A7: SBC A,A (R141, R156). -/
theorem test_A7 :
    stepGives (fun s => { s with regs := { s.regs with a := 0x55#8 }, flags := unpackFlags 0x10#8 }) [0x9F] (some 4)
      (fun t => t.regs.a == 0xFF#8 && t.flags.pack == 0x70#8) = true := by decide

/-- A8: SBC A,d8 (R141, R158). -/
theorem test_A8 :
    stepGives (fun s => { s with regs := { s.regs with a := 0x00#8 }, flags := unpackFlags 0x10#8 }) [0xDE, 0x00] (some 8)
      (fun t => t.regs.a == 0xFF#8 && t.flags.pack == 0x70#8) = true := by decide

/-- A9: AND d8 (R142, R161). -/
theorem test_A9 :
    stepGives (fun s => { s with regs := { s.regs with a := 0xF0#8 }, flags := unpackFlags 0xF0#8 }) [0xE6, 0x0F] (some 8)
      (fun t => t.regs.a == 0x00#8 && t.flags.pack == 0xA0#8) = true := by decide

/-- A10: XOR A (R143, R162). -/
theorem test_A10 :
    stepGives (fun s => { s with regs := { s.regs with a := 0x77#8 }, flags := unpackFlags 0xF0#8 }) [0xAF] (some 4)
      (fun t => t.regs.a == 0x00#8 && t.flags.pack == 0x80#8) = true := by decide

/-- A11: OR (HL) (R144, R166). -/
theorem test_A11 :
    stepGives (fun s => { s with regs := { s.regs with a := 0x00#8, h := 0xC0#8, l := 0x00#8 } }) [0xB6] (some 8)
      (fun t => t.regs.a == 0x00#8 && t.flags.pack == 0x80#8) = true := by decide

/-- A12: CP d8 (R141, R170). -/
theorem test_A12 :
    stepGives (fun s => { s with regs := { s.regs with a := 0x10#8 }, flags := unpackFlags 0x00#8 }) [0xFE, 0x20] (some 8)
      (fun t => t.regs.a == 0x10#8 && t.flags.pack == 0x50#8) = true := by decide

/-- A13: CP A (R141, R168). -/
theorem test_A13 :
    stepGives (fun s => { s with regs := { s.regs with a := 0x42#8 }, flags := unpackFlags 0xF0#8 }) [0xBF] (some 4)
      (fun t => t.regs.a == 0x42#8 && t.flags.pack == 0xC0#8) = true := by decide

/-- A14: INC B (R145, R171). -/
theorem test_A14 :
    stepGives (fun s => { s with regs := { s.regs with b := 0x0F#8 }, flags := unpackFlags 0x10#8 }) [0x04] (some 4)
      (fun t => t.regs.b == 0x10#8 && t.flags.pack == 0x30#8) = true := by decide

/-- A15: INC A (R145, R171). -/
theorem test_A15 :
    stepGives (fun s => { s with regs := { s.regs with a := 0xFF#8 }, flags := unpackFlags 0x00#8 }) [0x3C] (some 4)
      (fun t => t.regs.a == 0x00#8 && t.flags.pack == 0xA0#8) = true := by decide

/-- A16: DEC C, half-borrow (R146, R173). -/
theorem test_A16 :
    stepGives (fun s => { s with regs := { s.regs with c := 0x10#8 }, flags := unpackFlags 0x00#8 }) [0x0D] (some 4)
      (fun t => t.regs.c == 0x0F#8 && t.flags.pack == 0x60#8) = true := by decide

/-- A17: DEC C, wrap (R146, R173). -/
theorem test_A17 :
    stepGives (fun s => { s with regs := { s.regs with c := 0x00#8 }, flags := unpackFlags 0x10#8 }) [0x0D] (some 4)
      (fun t => t.regs.c == 0xFF#8 && t.flags.pack == 0x70#8) = true := by decide

/-- A19: INC (HL) (R145, R172). -/
theorem test_A19 :
    stepGives (fun s => { s.poke 0xC000#16 0xFF#8 with regs := { s.regs with h := 0xC0#8, l := 0x00#8 }, flags := unpackFlags 0x00#8 }) [0x34] (some 12)
      (fun t => t.readByte 0xC000#16 == 0x00#8 && t.flags.pack == 0xA0#8) = true := by decide

/-- A20: DEC (HL) in ROM (R146, R174). -/
theorem test_A20 :
    stepGives (fun s => { s with regs := { s.regs with h := 0x00#8, l := 0x00#8 }, flags := unpackFlags 0x00#8 }) [0x35] (some 12)
      (fun t => t.readByte 0x0000#16 == 0x00#8 && t.flags.pack == 0x60#8) = true := by decide

/-- W1: ADD HL,HL (R180, R181). -/
theorem test_W1 :
    stepGives (fun s => { s with regs := { s.regs with h := 0x8F#8, l := 0xFF#8 }, flags := unpackFlags 0x80#8 }) [0x29] (some 8)
      (fun t => t.pair .HL == 0x1FFE#16 && t.flags.pack == 0xB0#8) = true := by decide

/-- W2: ADD HL,BC (R180, R181). -/
theorem test_W2 :
    stepGives (fun s => { s with regs := { s.regs with h := 0x0F#8, l := 0xFF#8, b := 0x00#8, c := 0x01#8 }, flags := unpackFlags 0x00#8 }) [0x09] (some 8)
      (fun t => t.pair .HL == 0x1000#16 && t.flags.pack == 0x20#8) = true := by decide

/-- W3: ADD HL,SP (R180, R181). -/
theorem test_W3 :
    stepGives (fun s => { s with regs := { s.regs with h := 0xFF#8, l := 0xFF#8 }, sp := 0x0001#16, flags := unpackFlags 0x00#8 }) [0x39] (some 8)
      (fun t => t.pair .HL == 0x0000#16 && t.flags.pack == 0x30#8) = true := by decide

/-- W4: INC BC (R182). -/
theorem test_W4 :
    stepGives (fun s => { s with regs := { s.regs with b := 0xFF#8, c := 0xFF#8 }, flags := unpackFlags 0xF0#8 }) [0x03] (some 8)
      (fun t => t.pair .BC == 0x0000#16 && t.flags.pack == 0xF0#8) = true := by decide

/-- W5: DEC SP (R183). -/
theorem test_W5 :
    stepGives (fun s => { s with sp := 0x0000#16, flags := unpackFlags 0x00#8 }) [0x3B] (some 8)
      (fun t => t.sp == 0xFFFF#16 && t.flags.pack == 0x00#8) = true := by decide

/-- W6: ADD SP,e8, no carry (R184, R185). -/
theorem test_W6 :
    stepGives (fun s => { s with sp := 0x0000#16, flags := unpackFlags 0xF0#8 }) [0xE8, 0xFF] (some 16)
      (fun t => t.sp == 0xFFFF#16 && t.flags.pack == 0x00#8) = true := by decide

/-- W8: ADD SP,e8, carry (R184, R185). -/
theorem test_W8 :
    stepGives (fun s => { s with sp := 0x0001#16, flags := unpackFlags 0x00#8 }) [0xE8, 0xFF] (some 16)
      (fun t => t.sp == 0x0000#16 && t.flags.pack == 0x30#8) = true := by decide

/-- W10: LD HL,SP+e8 (R184, R186). -/
theorem test_W10 :
    stepGives (fun s => { s with sp := 0xFFFE#16, flags := unpackFlags 0x00#8 }) [0xF8, 0x02] (some 12)
      (fun t => t.pair .HL == 0x0000#16 && t.sp == 0xFFFE#16 && t.flags.pack == 0x30#8) = true := by decide

/-- W11: LD HL,SP+e8, negative (R184, R186). -/
theorem test_W11 :
    stepGives (fun s => { s with sp := 0x0080#16, flags := unpackFlags 0x00#8 }) [0xF8, 0x80] (some 12)
      (fun t => t.pair .HL == 0x0000#16 && t.flags.pack == 0x10#8) = true := by decide

/-- S1: RLCA (R190). -/
theorem test_S1 :
    stepGives (fun s => { s with regs := { s.regs with a := 0x80#8 }, flags := unpackFlags 0x80#8 }) [0x07] (some 4)
      (fun t => t.regs.a == 0x01#8 && t.flags.pack == 0x10#8) = true := by decide

/-- S2: RRCA (R191). -/
theorem test_S2 :
    stepGives (fun s => { s with regs := { s.regs with a := 0x01#8 }, flags := unpackFlags 0x00#8 }) [0x0F] (some 4)
      (fun t => t.regs.a == 0x80#8 && t.flags.pack == 0x10#8) = true := by decide

/-- S3: RLA (R192). -/
theorem test_S3 :
    stepGives (fun s => { s with regs := { s.regs with a := 0x80#8 }, flags := unpackFlags 0x00#8 }) [0x17] (some 4)
      (fun t => t.regs.a == 0x00#8 && t.flags.pack == 0x10#8) = true := by decide

/-- S4: RLA, carry in (R192). -/
theorem test_S4 :
    stepGives (fun s => { s with regs := { s.regs with a := 0x00#8 }, flags := unpackFlags 0x10#8 }) [0x17] (some 4)
      (fun t => t.regs.a == 0x01#8 && t.flags.pack == 0x00#8) = true := by decide

/-- S5: RRA (R193). -/
theorem test_S5 :
    stepGives (fun s => { s with regs := { s.regs with a := 0x01#8 }, flags := unpackFlags 0x00#8 }) [0x1F] (some 4)
      (fun t => t.regs.a == 0x00#8 && t.flags.pack == 0x10#8) = true := by decide

/-- S6: RLC B of zero (R194). -/
theorem test_S6 :
    stepGives (fun s => { s with regs := { s.regs with b := 0x00#8 }, flags := unpackFlags 0x10#8 }) [0xCB, 0x00] (some 8)
      (fun t => t.regs.b == 0x00#8 && t.flags.pack == 0x80#8) = true := by decide

/-- S7: RLC B (R194). -/
theorem test_S7 :
    stepGives (fun s => { s with regs := { s.regs with b := 0x85#8 }, flags := unpackFlags 0x00#8 }) [0xCB, 0x00] (some 8)
      (fun t => t.regs.b == 0x0B#8 && t.flags.pack == 0x10#8) = true := by decide

/-- S8: RRC C (R196). -/
theorem test_S8 :
    stepGives (fun s => { s with regs := { s.regs with c := 0x01#8 }, flags := unpackFlags 0x00#8 }) [0xCB, 0x09] (some 8)
      (fun t => t.regs.c == 0x80#8 && t.flags.pack == 0x10#8) = true := by decide

/-- S9: RL D (R198). -/
theorem test_S9 :
    stepGives (fun s => { s with regs := { s.regs with d := 0x80#8 }, flags := unpackFlags 0x00#8 }) [0xCB, 0x12] (some 8)
      (fun t => t.regs.d == 0x00#8 && t.flags.pack == 0x90#8) = true := by decide

/-- S10: RR E (R200). -/
theorem test_S10 :
    stepGives (fun s => { s with regs := { s.regs with e := 0x01#8 }, flags := unpackFlags 0x10#8 }) [0xCB, 0x1B] (some 8)
      (fun t => t.regs.e == 0x80#8 && t.flags.pack == 0x10#8) = true := by decide

/-- S11: SLA H (R202). -/
theorem test_S11 :
    stepGives (fun s => { s with regs := { s.regs with h := 0x80#8 }, flags := unpackFlags 0x00#8 }) [0xCB, 0x24] (some 8)
      (fun t => t.regs.h == 0x00#8 && t.flags.pack == 0x90#8) = true := by decide

/-- S12: SRA L (R204). -/
theorem test_S12 :
    stepGives (fun s => { s with regs := { s.regs with l := 0x81#8 }, flags := unpackFlags 0x00#8 }) [0xCB, 0x2D] (some 8)
      (fun t => t.regs.l == 0xC0#8 && t.flags.pack == 0x10#8) = true := by decide

/-- S13: SWAP A (R206). -/
theorem test_S13 :
    stepGives (fun s => { s with regs := { s.regs with a := 0xF0#8 }, flags := unpackFlags 0x10#8 }) [0xCB, 0x37] (some 8)
      (fun t => t.regs.a == 0x0F#8 && t.flags.pack == 0x00#8) = true := by decide

/-- S14: SWAP A of zero (R206). -/
theorem test_S14 :
    stepGives (fun s => { s with regs := { s.regs with a := 0x00#8 }, flags := unpackFlags 0x10#8 }) [0xCB, 0x37] (some 8)
      (fun t => t.regs.a == 0x00#8 && t.flags.pack == 0x80#8) = true := by decide

/-- S15: SRL A (R208). -/
theorem test_S15 :
    stepGives (fun s => { s with regs := { s.regs with a := 0x01#8 }, flags := unpackFlags 0x00#8 }) [0xCB, 0x3F] (some 8)
      (fun t => t.regs.a == 0x00#8 && t.flags.pack == 0x90#8) = true := by decide

/-- S16: BIT 0,B (R210). -/
theorem test_S16 :
    stepGives (fun s => { s with regs := { s.regs with b := 0x00#8 }, flags := unpackFlags 0x10#8 }) [0xCB, 0x40] (some 8)
      (fun t => t.regs.b == 0x00#8 && t.flags.pack == 0xB0#8) = true := by decide

/-- S17: BIT 7,A (R210). -/
theorem test_S17 :
    stepGives (fun s => { s with regs := { s.regs with a := 0x80#8 }, flags := unpackFlags 0x00#8 }) [0xCB, 0x7F] (some 8)
      (fun t => t.regs.a == 0x80#8 && t.flags.pack == 0x20#8) = true := by decide

/-- S18: BIT 3,(HL) (R211). -/
theorem test_S18 :
    stepGives (fun s => { s.poke 0xC000#16 0x08#8 with regs := { s.regs with h := 0xC0#8, l := 0x00#8 }, flags := unpackFlags 0xF0#8 }) [0xCB, 0x5E] (some 12)
      (fun t => t.readByte 0xC000#16 == 0x08#8 && t.flags.pack == 0x30#8) = true := by decide

/-- S19: RES 7,(HL) (R213). -/
theorem test_S19 :
    stepGives (fun s => { s.poke 0xC000#16 0xFF#8 with regs := { s.regs with h := 0xC0#8, l := 0x00#8 }, flags := unpackFlags 0xF0#8 }) [0xCB, 0xBE] (some 16)
      (fun t => t.readByte 0xC000#16 == 0x7F#8 && t.flags.pack == 0xF0#8) = true := by decide

/-- S20: SET 0,A (R214). -/
theorem test_S20 :
    stepGives (fun s => { s with regs := { s.regs with a := 0x00#8 }, flags := unpackFlags 0x00#8 }) [0xCB, 0xC7] (some 8)
      (fun t => t.regs.a == 0x01#8 && t.flags.pack == 0x00#8) = true := by decide

/-- S21: RLC (HL) in ROM (R195). -/
theorem test_S21 :
    stepGives (fun s => { s with regs := { s.regs with h := 0x01#8, l := 0x00#8 }, flags := unpackFlags 0x00#8 }) [0xCB, 0x06] (some 16)
      (fun t => t.readByte 0x0100#16 == 0xCB#8 && t.flags.pack == 0x10#8) = true := by decide

/-- C1: JP a16 (R221). -/
theorem test_C1 :
    stepGives id [0xC3, 0x50, 0x01] (some 16) (fun t => t.pc == 0x0150#16) = true := by decide

/-- C2: JP NZ,a16, not taken (R222). -/
theorem test_C2 :
    stepGives (fun s => { s with flags := unpackFlags 0x80#8 }) [0xC2, 0x00, 0x20] (some 12)
      (fun t => t.pc == 0x0103#16) = true := by decide

/-- C3: JP C,a16, taken (R222). -/
theorem test_C3 :
    stepGives (fun s => { s with flags := unpackFlags 0x10#8 }) [0xDA, 0x00, 0x20] (some 16)
      (fun t => t.pc == 0x2000#16) = true := by decide

/-- C4: JP HL (R223). -/
theorem test_C4 :
    stepGives (fun s => { s with regs := { s.regs with h := 0xC0#8, l := 0x00#8 } }) [0xE9] (some 4)
      (fun t => t.pc == 0xC000#16) = true := by decide

/-- C5: JR to itself (R224). -/
theorem test_C5 :
    stepGives id [0x18, 0xFE] (some 12) (fun t => t.pc == 0x0100#16) = true := by decide

/-- C7: JR backwards (R224). -/
theorem test_C7 :
    stepGives id [0x18, 0x80] (some 12) (fun t => t.pc == 0x0082#16) = true := by decide

/-- C8: JR Z,e8, not taken (R225). -/
theorem test_C8 :
    stepGives (fun s => { s with flags := unpackFlags 0x00#8 }) [0x28, 0x10] (some 8)
      (fun t => t.pc == 0x0102#16) = true := by decide

/-- C9: JR NC,e8, taken (R225). -/
theorem test_C9 :
    stepGives (fun s => { s with flags := unpackFlags 0x00#8 }) [0x30, 0x10] (some 12)
      (fun t => t.pc == 0x0112#16) = true := by decide

/-- C10: CALL a16 (R226). -/
theorem test_C10 :
    stepGives (fun s => { s with sp := 0xFFFE#16 }) [0xCD, 0x50, 0x01] (some 24)
      (fun t => t.pc == 0x0150#16 && t.sp == 0xFFFC#16 && t.readByte 0xFFFC#16 == 0x03#8 && t.readByte 0xFFFD#16 == 0x01#8) = true := by decide

/-- C11: CALL NZ,a16, not taken (R227). -/
theorem test_C11 :
    stepGives (fun s => { s with flags := unpackFlags 0x80#8, sp := 0xFFFE#16 }) [0xC4, 0x50, 0x01] (some 12)
      (fun t => t.pc == 0x0103#16 && t.sp == 0xFFFE#16) = true := by decide

/-- C12: CALL C,a16, taken (R227). -/
theorem test_C12 :
    stepGives (fun s => { s with flags := unpackFlags 0x10#8, sp := 0xFFFE#16 }) [0xDC, 0x50, 0x01] (some 24)
      (fun t => t.pc == 0x0150#16 && t.sp == 0xFFFC#16) = true := by decide

/-- C13: RET (R228). -/
theorem test_C13 :
    stepGives (fun s => { (s.poke 0xC000#16 0x34#8).poke 0xC001#16 0x12#8 with sp := 0xC000#16 }) [0xC9] (some 16)
      (fun t => t.pc == 0x1234#16 && t.sp == 0xC002#16) = true := by decide

/-- C14: RET Z, taken (R229). -/
theorem test_C14 :
    stepGives (fun s => { (s.poke 0xC000#16 0x34#8).poke 0xC001#16 0x12#8 with flags := unpackFlags 0x80#8, sp := 0xC000#16 }) [0xC8] (some 20)
      (fun t => t.pc == 0x1234#16 && t.sp == 0xC002#16) = true := by decide

/-- C15: RET NC, not taken (R229). -/
theorem test_C15 :
    stepGives (fun s => { s with flags := unpackFlags 0x10#8, sp := 0xC000#16 }) [0xD0] (some 8)
      (fun t => t.pc == 0x0101#16 && t.sp == 0xC000#16) = true := by decide

/-- C16: RETI (R230). -/
theorem test_C16 :
    stepGives (fun s => { (s.poke 0xC000#16 0x34#8).poke 0xC001#16 0x12#8 with ime := false, sp := 0xC000#16 }) [0xD9] (some 16)
      (fun t => t.pc == 0x1234#16 && t.sp == 0xC002#16 && t.ime) = true := by decide

/-- C17: RST 0x38 (R231). -/
theorem test_C17 :
    stepGives (fun s => { s with sp := 0xFFFE#16 }) [0xFF] (some 16)
      (fun t => t.pc == 0x0038#16 && t.sp == 0xFFFC#16 && t.readByte 0xFFFC#16 == 0x01#8 && t.readByte 0xFFFD#16 == 0x01#8) = true := by decide

/-- C18: RST 0x00 (R231). -/
theorem test_C18 :
    stepGives (fun s => { s with sp := 0xFFFE#16 }) [0xC7] (some 16)
      (fun t => t.pc == 0x0000#16 && t.sp == 0xFFFC#16) = true := by decide

/-- M1: DAA after an addition (R251). -/
theorem test_M1 :
    stepGives (fun s => { s with regs := { s.regs with a := 0x3C#8 }, flags := unpackFlags 0x00#8 }) [0x27] (some 4)
      (fun t => t.regs.a == 0x42#8 && t.flags.pack == 0x00#8) = true := by decide

/-- M2: DAA with both corrections (R251). -/
theorem test_M2 :
    stepGives (fun s => { s with regs := { s.regs with a := 0x9A#8 }, flags := unpackFlags 0x00#8 }) [0x27] (some 4)
      (fun t => t.regs.a == 0x00#8 && t.flags.pack == 0x90#8) = true := by decide

/-- M6: DAA after a subtraction (R251). -/
theorem test_M6 :
    stepGives (fun s => { s with regs := { s.regs with a := 0xFF#8 }, flags := unpackFlags 0x70#8 }) [0x27] (some 4)
      (fun t => t.regs.a == 0x99#8 && t.flags.pack == 0x50#8) = true := by decide

/-- M7: CPL (R252). -/
theorem test_M7 :
    stepGives (fun s => { s with regs := { s.regs with a := 0xFF#8 }, flags := unpackFlags 0x00#8 }) [0x2F] (some 4)
      (fun t => t.regs.a == 0x00#8 && t.flags.pack == 0x60#8) = true := by decide

/-- M8: SCF (R253). -/
theorem test_M8 :
    stepGives (fun s => { s with flags := unpackFlags 0xE0#8 }) [0x37] (some 4)
      (fun t => t.flags.pack == 0x90#8) = true := by decide

/-- M9: CCF, C set (R254). -/
theorem test_M9 :
    stepGives (fun s => { s with flags := unpackFlags 0x70#8 }) [0x3F] (some 4)
      (fun t => t.flags.pack == 0x00#8) = true := by decide

/-- M10: CCF, C clear (R254). -/
theorem test_M10 :
    stepGives (fun s => { s with flags := unpackFlags 0x80#8 }) [0x3F] (some 4)
      (fun t => t.flags.pack == 0x90#8) = true := by decide

/-- M11: EI (R256). -/
theorem test_M11 :
    stepGives (fun s => { s with ime := false }) [0xFB] (some 4) (fun t => !t.ime && t.eiDelay) = true := by decide

/-- M12: NOP after EI (the second step of the vector) (R256, R90, R250). -/
theorem test_M12 :
    stepGives (fun s => { s with ime := false, eiDelay := true }) [0x00] (some 4)
      (fun t => t.pc == 0x0101#16 && t.ime && !t.eiDelay) = true := by decide

/-- M13: DI after EI (the second step of the vector) (R255, R256). -/
theorem test_M13 :
    stepGives (fun s => { s with ime := false, eiDelay := true }) [0xF3] (some 4)
      (fun t => !t.ime && !t.eiDelay) = true := by decide

/-- M14: EI after EI (the second step of the vector) (R256). -/
theorem test_M14 :
    stepGives (fun s => { s with ime := false, eiDelay := true }) [0xFB] (some 4)
      (fun t => t.ime && t.eiDelay) = true := by decide

/-- M15: DI (R255). -/
theorem test_M15 :
    stepGives (fun s => { s with ime := true }) [0xF3] (some 4) (fun t => !t.ime) = true := by decide

/-- M16: HALT (R257). -/
theorem test_M16 :
    stepGives id [0x76] (some 4) (fun t => t.pc == 0x0101#16 && t.halted) = true := by decide

/-- M17: STOP (R258). -/
theorem test_M17 :
    stepGives id [0x10, 0x00] (some 4) (fun t => t.pc == 0x0102#16 && t.stopped) = true := by decide

/-- I1: dispatch of bit 0 (R307, R309, R310). -/
theorem test_I1 :
    stepGives (fun s => { (s.poke 0xFFFF#16 0x1F#8).poke 0xFF0F#16 0x1F#8 with ime := true }) [0x00] (some 20)
      (fun t => t.pc == 0x0040#16 && t.sp == 0xFFFC#16 && t.readByte 0xFFFC#16 == 0x00#8 && t.readByte 0xFFFD#16 == 0x01#8 && t.readByte 0xFF0F#16 == 0x1E#8 && !t.ime) = true := by decide

/-- I2: dispatch of bit 4 (R304, R310). -/
theorem test_I2 :
    stepGives (fun s => { (s.poke 0xFFFF#16 0x10#8).poke 0xFF0F#16 0x10#8 with ime := true }) [0x00] (some 20)
      (fun t => t.pc == 0x0060#16 && t.readByte 0xFF0F#16 == 0x00#8 && !t.ime) = true := by decide

/-- I3: bits 7 to 5 are masked off (R307). -/
theorem test_I3 :
    stepGives (fun s => { (s.poke 0xFFFF#16 0xE0#8).poke 0xFF0F#16 0xE0#8 with ime := true }) [0x00] (some 4)
      (fun t => t.pc == 0x0101#16 && t.readByte 0xFF0F#16 == 0xE0#8) = true := by decide

/-- I4: no common bit, no dispatch (R307). -/
theorem test_I4 :
    stepGives (fun s => { (s.poke 0xFFFF#16 0x04#8).poke 0xFF0F#16 0x02#8 with ime := true }) [0x00] (some 4)
      (fun t => t.pc == 0x0101#16 && t.readByte 0xFF0F#16 == 0x02#8) = true := by decide

/-- I5: IME = 0, no dispatch (R314). -/
theorem test_I5 :
    stepGives (fun s => { (s.poke 0xFFFF#16 0x04#8).poke 0xFF0F#16 0x04#8 with ime := false }) [0x00] (some 4)
      (fun t => t.pc == 0x0101#16 && t.readByte 0xFF0F#16 == 0x04#8) = true := by decide

/-- I6: dispatch clears the EI latch (R310). -/
theorem test_I6 :
    stepGives (fun s => { (s.poke 0xFFFF#16 0x01#8).poke 0xFF0F#16 0x01#8 with ime := true, eiDelay := true }) [0x00] (some 20)
      (fun t => t.pc == 0x0040#16 && !t.ime && !t.eiDelay) = true := by decide

/-- I7: halted, nothing pending: idle (R315). -/
theorem test_I7 :
    stepGives (fun s => { s.poke 0xFFFF#16 0x01#8 with halted := true }) [0x00] (some 4)
      (fun t => t.pc == 0x0100#16 && t.halted) = true := by decide

/-- I8: wake without dispatch (R315). -/
theorem test_I8 :
    stepGives (fun s => { (s.poke 0xFFFF#16 0x01#8).poke 0xFF0F#16 0x01#8 with regs := { s.regs with a := 0x01#8 }, halted := true }) [0x3C] (some 4)
      (fun t => t.regs.a == 0x02#8 && t.pc == 0x0101#16 && !t.halted && t.readByte 0xFF0F#16 == 0x01#8) = true := by decide

/-- I9: wake and dispatch (R310, R315). -/
theorem test_I9 :
    stepGives (fun s => { (s.poke 0xFFFF#16 0x01#8).poke 0xFF0F#16 0x01#8 with halted := true, ime := true }) [0x00] (some 20)
      (fun t => t.pc == 0x0040#16 && !t.halted && t.readByte 0xFFFC#16 == 0x00#8 && t.readByte 0xFFFD#16 == 0x01#8) = true := by decide

/-- M18: an illegal byte is recorded with its address, nothing else changes, and no count is returned; the next step is
the fault (R259, R301, R314). -/
theorem test_M18 :
    step (bytesAt 0x0100 [0xDD] State.reset) =
        .next { bytesAt 0x0100 [0xDD] State.reset with fault := some { pc := 0x0100#16, bytes := [0xDD#8] } } ∧
      step { State.reset with fault := some { pc := 0x0100#16, bytes := [0xDD#8] } } =
        .fault (.illegalOpcode { pc := 0x0100#16, bytes := [0xDD#8] }) := ⟨rfl, rfl⟩

/-- I11, its second step: a stopped core does nothing and returns no count (R316). -/
theorem test_I11 :
    step { State.reset with stopped := true, lastCycles := some 4 } = .next { State.reset with stopped := true } := rfl

/-- R316: the host's wake event ends the stopped state, and the step runs (here a NOP). -/
theorem test_wake_from_stop :
    stepGives (fun s => { s with stopped := true, inputs := [{ requests := 0#5, wake := true }] }) [0x00] (some 4)
      (fun t => t.pc == 0x0101#16 && !t.stopped && t.inputs == []) = true := by decide

/-- R308: a request of the environment is in IF before the step, which dispatches it. -/
theorem test_request_from_the_environment :
    stepGives (fun s => { s.poke 0xFFFF#16 0x1F#8 with ime := true, inputs := [{ requests := 0b01000#5, wake := false }] })
      [0x00] (some 20) (fun t => t.pc == 0x0058#16 && t.readByte 0xFF0F#16 == 0x00#8) = true := by decide

/-- R63: the n-th read of 0xFF00 of a run is the host's n-th draw (here LD A,(a16) from 0xFF00). -/
theorem test_joypad_draw :
    (match step (bytesAt 0x0100 [0xFA, 0x00, 0xFF] { State.reset with joypadReads := 7 }) with
      | .next t => (t.regs.a, t.joypadReads)
      | .fault _ => (0#8, 0)
      | .refused _ => (0#8, 0)) = (Config.joypadInput 7, 8) := rfl

/-! ## The pixel-timing controller: I12 to I23, T9 -/

theorem test_I12_I13_I14 :
    Timing.reset.advance 79 = { Timing.reset with modeCycles := 79 } ∧
      Timing.reset.advance 80 = { Timing.reset with mode := .vramRead } ∧
      Timing.reset.advance 252 = { Timing.reset with mode := .hBlank } := by decide

theorem test_I15_I16 :
    Timing.reset.advance 456 = { Timing.reset with scanline := 1 } ∧
      Timing.reset.advance 500 = { Timing.reset with modeCycles := 44, scanline := 1 } := by decide

/-- I19 from the line before: the last H-blank cycle of line 142 enters V-blank at line 143 and emits FrameReady. -/
theorem test_I19 :
    Timing.advance { mode := .hBlank, modeCycles := 203, scanline := 142, framesReady := 0 } 1 =
      { mode := .vBlank, modeCycles := 0, scanline := 143, framesReady := 1 } := by decide

/-- I22 from the last V-blank cycle: the frame ends at OAM-scan, line 0. -/
theorem test_I22 :
    Timing.advance { mode := .vBlank, modeCycles := 455, scanline := 153, framesReady := 1 } 1 =
      { mode := .oamScan, modeCycles := 0, scanline := 0, framesReady := 1 } := by decide

/-- I21 from the line before: with `vblank_requests_if` true, V-blank entry sets IF bit 0. -/
theorem test_I21 :
    (State.advance { State.reset with
        timing := { mode := .hBlank, modeCycles := 203, scanline := 142, framesReady := 0 }, vblankRequestsIf := true }
      1).readByte 0xFF0F#16 = 0x01#8 := by decide

/-! ## A state and operands that meet the hypotheses of each statement -/

theorem witness_EncodeOfDecodeIsTheBytes : decode [0xCB#8, 0x7C#8, 0x00#8] = .ok (.bit_7_H, [0x00#8]) := rfl

theorem witness_LengthComesFromTheFirstByte :
    instrLength 0x01#8 ≤ [0x34#8, 0x12#8].length + 1 ∧
      decode (0x01#8 :: [0x34#8, 0x12#8]) = .ok (.ld_BC_d16 0x1234#16, []) := ⟨by decide, rfl⟩

/-- The first and the last address of each clause. -/
theorem witness_EveryAddressReadsAsItsRegionSays :
    ((0x0000#16).toNat < 0x4000 ∧ (0x3FFF#16).toNat < 0x4000) ∧
      (0x4000 ≤ (0x4000#16).toNat ∧ (0x4000#16).toNat < 0x8000 ∧ 0x4000 ≤ (0x7FFF#16).toNat ∧ (0x7FFF#16).toNat < 0x8000) ∧
      (0x8000 ≤ (0x8000#16).toNat ∧ (0x8000#16).toNat < 0xE000 ∧ 0x8000 ≤ (0xDFFF#16).toNat ∧ (0xDFFF#16).toNat < 0xE000) ∧
      (0xE000 ≤ (0xE000#16).toNat ∧ (0xE000#16).toNat < 0xFE00 ∧ 0xE000 ≤ (0xFDFF#16).toNat ∧ (0xFDFF#16).toNat < 0xFE00) ∧
      (0xFE00 ≤ (0xFE00#16).toNat ∧ (0xFE00#16).toNat < 0xFEA0 ∧ 0xFE00 ≤ (0xFE9F#16).toNat ∧ (0xFE9F#16).toNat < 0xFEA0) ∧
      (0xFEA0 ≤ (0xFEA0#16).toNat ∧ (0xFEA0#16).toNat < 0xFF00 ∧ 0xFEA0 ≤ (0xFEFF#16).toNat ∧ (0xFEFF#16).toNat < 0xFF00) ∧
      (0xFF00#16).toNat = 0xFF00 ∧ (0xFF44#16).toNat = 0xFF44 ∧
      (0xFF00 < (0xFF01#16).toNat ∧ (0xFF01#16).toNat ≠ 0xFF44 ∧ 0xFF00 < (0xFFFF#16).toNat ∧ (0xFFFF#16).toNat ≠ 0xFF44) := by
  decide

theorem witness_WriteThenReadAndTheRestUnchanged :
    State.reset.mem.wf = true ∧ plainStorage 0xC000#16 = true ∧ sameByte 0xE000#16 0xC000#16 = true ∧
      plainStorage 0xFFFF#16 = true ∧ sameByte 0xFFFF#16 0xFFFF#16 = true ∧ sameByte 0xC001#16 0xC000#16 = false ∧
      sameByte 0xFF44#16 0xFF44#16 = false := by decide

theorem witness_EchoAliasesWorkingRam :
    State.reset.mem.wf = true ∧ 0xC000 ≤ (0xC000#16).toNat ∧ (0xC000#16).toNat ≤ 0xDDFF ∧
      0xC000 ≤ (0xDDFF#16).toNat ∧ (0xDDFF#16).toNat ≤ 0xDDFF := by decide

theorem witness_PushThenPopRestores :
    State.reset.mem.wf = true ∧ plainStorage (State.reset.sp - 2) = true ∧ plainStorage (State.reset.sp - 1) = true := by
  decide

theorem witness_ExtendedRotates :
    RotOp.RLC ∈ [RotOp.RLC, .RRC, .RL, .RR] ∧ RotOp.RR ∈ [RotOp.RLC, .RRC, .RL, .RR] := by decide

theorem witness_ExtendedShiftsAndSwap :
    RotOp.SLA ∈ [RotOp.SLA, .SRA, .SWAP, .SRL] ∧ RotOp.SRL ∈ [RotOp.SLA, .SRA, .SWAP, .SRL] := by decide

/-- After an addition: A = 0x9A with both corrections. -/
theorem witness_DecimalAdjust_add :
    let s : State := { State.reset with regs := { State.reset.regs with a := 0x9A#8 }, flags := unpackFlags 0x00#8 }
    (true = true ↔ s.flags.c = true ∨ (s.flags.n = false ∧ s.regs.a.toNat > 0x99)) ∧
      (true = true ↔ s.flags.h = true ∨ (s.flags.n = false ∧ s.regs.a.toNat % 16 > 9)) ∧
      (s.flags.n = false →
        (0x00#8).toNat = (s.regs.a.toNat + (if true then 0x60 else 0) + (if true then 0x06 else 0)) % 256) ∧
      (s.flags.n = true →
        ((0x00#8).toNat : Int) = ((s.regs.a.toNat : Int) - (if true then 0x60 else 0) - (if true then 0x06 else 0)) % 256) := by
  decide

/-- After a subtraction: A = 0x2D with the low correction alone. -/
theorem witness_DecimalAdjust_sub :
    let s : State := { State.reset with regs := { State.reset.regs with a := 0x2D#8 }, flags := unpackFlags 0x60#8 }
    (false = true ↔ s.flags.c = true ∨ (s.flags.n = false ∧ s.regs.a.toNat > 0x99)) ∧
      (true = true ↔ s.flags.h = true ∨ (s.flags.n = false ∧ s.regs.a.toNat % 16 > 9)) ∧
      (s.flags.n = false →
        (0x27#8).toNat = (s.regs.a.toNat + (if false then 0x60 else 0) + (if true then 0x06 else 0)) % 256) ∧
      (s.flags.n = true →
        ((0x27#8).toNat : Int) = ((s.regs.a.toNat : Int) - (if false then 0x60 else 0) - (if true then 0x06 else 0)) % 256) := by
  decide

/-- The smallest and the largest operand, and a state for each operand form. -/
theorem witness_DecimalAdjustMakesDecimalSums :
    let s : State := { State.reset with regs := { State.reset.regs with a := 0x99#8, b := 0x47#8, h := 0xC0#8, l := 0x00#8 } }
    0 < 100 ∧ 99 < 100 ∧ s.regs.a = bcd 99 ∧ s.regs.get .B = bcd 47 ∧ s.readByte s.hl = bcd 0 := by decide

/-- A store and an address outside it, and a read of 0xFF00. -/
theorem witness_StoresReachOnlyTheAddressesStoredTo :
    (∃ t, exec (.ld_ma16_A 0xC000#16) State.reset = .next t) ∧
      (∀ d ∈ (Instr.ld_ma16_A 0xC000#16).form.storeAddrs State.reset, sameByte 0xC001#16 d = false) ∧
      0xC001#16 ≠ joypAddr ∧ (∃ t, exec (.ldh_A_ma8 0x00#8) State.reset = .next t) := by
  refine ⟨⟨_, exec_eq _ _⟩, fun d hd => ?_, by decide, ⟨_, exec_eq _ _⟩⟩
  rw [List.mem_singleton.1 hd]
  decide

theorem witness_OnlyDestinationRegistersChange :
    (∃ t, exec .ld_B_C State.reset = .next t) ∧ Reg8.D ∉ Instr.ld_B_C.form.writesRegs ∧
      Instr.ld_B_C.form.writesSP = false ∧ Instr.ld_B_C.form.transfers = false := by
  refine ⟨⟨_, exec_eq _ _⟩, by decide, by decide, by decide⟩

theorem witness_EveryInstructionCompletesWithItsCycles : Instr.illegal_D3.wf = false := rfl

theorem witness_FlagsChangeAsTheTableSays : ∃ t, exec .scf State.reset = .next t := ⟨_, exec_eq _ _⟩

theorem witness_ControlStateChangesOnlyWhereNamed :
    (∃ t, exec .nop State.reset = .next t) ∧ Instr.nop ≠ .di ∧ Instr.nop ≠ .reti ∧ Instr.nop ≠ .ei ∧
      Instr.nop ≠ .halt ∧ (∀ b, Instr.nop ≠ .stop b) ∧ Instr.nop.wf = true := by
  refine ⟨⟨_, exec_eq _ _⟩, by decide, by decide, by decide, by decide, ?_, by decide⟩
  intro b h
  cases h

/-- JP 0x0150 placed at the reset PC. -/
theorem witness_StepRunsTheDecodedInstruction :
    (bytesAt 0x0100 [0xC3, 0x50, 0x01] State.reset).runs = true ∧
      decode (bytesAt 0x0100 [0xC3, 0x50, 0x01] State.reset).nextBytes = .ok (.jp_a16 0x0150#16, []) ∧
      (Instr.jp_a16 0x0150#16).wf = true := ⟨rfl, rfl, rfl⟩

theorem witness_EiTakesEffectAfterOneInstruction :
    ((bytesAt 0x0100 [0xFB] State.reset).runs = true ∧
        decode (bytesAt 0x0100 [0xFB] State.reset).nextBytes = .ok (.ei, [0x00#8, 0x00#8])) ∧
      (({ State.reset with eiDelay := true } : State).runs = true ∧
        decode ({ State.reset with eiDelay := true } : State).nextBytes = .ok (.nop, [0x00#8, 0x00#8]) ∧
        Instr.nop.wf = true ∧ Instr.nop ≠ .di) ∧
      ((bytesAt 0x0100 [0xF3] State.reset).runs = true ∧
        decode (bytesAt 0x0100 [0xF3] State.reset).nextBytes = .ok (.di, [0x00#8, 0x00#8])) := by
  refine ⟨⟨rfl, rfl⟩, ⟨rfl, rfl, rfl, by decide⟩, ⟨rfl, rfl⟩⟩

/-- The lowest and the highest source. -/
theorem witness_LowestPendingInterruptIsDispatched :
    let s : State := { (State.reset.poke 0xFFFF#16 0x1F#8).poke 0xFF0F#16 0x1F#8 with ime := true }
    let u : State := { (State.reset.poke 0xFFFF#16 0x1F#8).poke 0xFF0F#16 0x10#8 with ime := true }
    (s.fault = none ∧ s.stopped = false ∧ s.inputs = [] ∧ s.ime = true ∧ (s.readByte 0xFFFF#16).getLsbD 0 = true ∧
        (s.readByte 0xFF0F#16).getLsbD 0 = true) ∧
      (u.fault = none ∧ u.stopped = false ∧ u.inputs = [] ∧ u.ime = true ∧ (u.readByte 0xFFFF#16).getLsbD 4 = true ∧
        (u.readByte 0xFF0F#16).getLsbD 4 = true ∧
        ∀ j, j < 4 → (u.readByte 0xFFFF#16 &&& u.readByte 0xFF0F#16).getLsbD j = false) := by
  decide

theorem witness_HaltedCoreIdlesOrWakes :
    let s : State := { State.reset with halted := true }
    let u : State := { (State.reset.poke 0xFFFF#16 0x01#8).poke 0xFF0F#16 0x01#8 with halted := true }
    (s.fault = none ∧ s.stopped = false ∧ s.halted = true ∧ s.inputs = [] ∧ s.pending = 0#8 ∧
        s.vblankRequestsIf = false) ∧
      (u.fault = none ∧ u.stopped = false ∧ u.halted = true ∧ u.inputs = [] ∧ u.pending ≠ 0#8 ∧ u.ime = false) := by
  decide

theorem witness_StoppedCoreWaitsForTheHost :
    let s : State := { State.reset with stopped := true }
    let w : Bool → State := fun b => { State.reset with stopped := true, inputs := [{ requests := 0b00001#5, wake := b }] }
    (s.fault = none ∧ s.stopped = true ∧ s.inputs = []) ∧
      ((w false).fault = none ∧ (w false).stopped = true ∧
        (w false).inputs = { requests := 0b00001#5, wake := false } :: []) ∧
      ((w true).fault = none ∧ (w true).stopped = true ∧
        (w true).inputs = { requests := 0b00001#5, wake := true } :: []) := by
  decide

theorem witness_IllegalOpcodeIsRolledBackAndFinal :
    ((bytesAt 0x0100 [0xD3] State.reset).runs = true ∧
        (bytesAt 0x0100 [0xD3] State.reset).readByte 0x0100#16 = IllegalByte.xD3.byte) ∧
      ({ State.reset with fault := some { pc := 0x0100#16, bytes := [0xD3#8] } } : State).fault =
        some { pc := 0x0100#16, bytes := [0xD3#8] } := by decide

/-- A step that raises IME after EI, one that raises it by RETI, and one that may not. -/
theorem witness_OnlyEiOrRetiRaisesIme :
    (∃ t, step { State.reset with eiDelay := true } = .next t ∧ t.ime = true) ∧
      (∃ t, step (bytesAt 0x0100 [0xD9] State.reset) = .next t ∧ t.ime = true) ∧
      (∃ t, step State.reset = .next t ∧ State.reset.ime = false ∧ State.reset.eiDelay = false ∧
        State.reset.environment.readByte State.reset.pc ≠ 0xD9#8 ∧
        State.reset.environment.readByte State.reset.pc ≠ 0xFB#8) := by
  refine ⟨⟨_, rfl, rfl⟩, ⟨_, rfl, rfl⟩, ⟨_, rfl, rfl, rfl, by decide, by decide⟩⟩

/-- With IME = 0: a core that stays stopped, a halted core with nothing pending, and a running and a waking one with all
five sources pending. -/
theorem witness_OnlyEiOrRetiRaisesIme_dispatch :
    let u : State := { State.reset with stopped := true }
    let v : State := { State.reset with halted := true }
    let w : Bool → State := fun b => { (State.reset.poke 0xFFFF#16 0x1F#8).poke 0xFF0F#16 0x1F#8 with halted := b }
    (u.fault = none ∧ u.ime = false ∧ u.environment.stopped = true) ∧
      (v.fault = none ∧ v.ime = false ∧ v.environment.stopped = false ∧ v.halted = true ∧ v.environment.pending = 0#8) ∧
      ∀ b, (w b).fault = none ∧ (w b).ime = false ∧ (w b).environment.stopped = false ∧
        ¬((w b).halted = true ∧ (w b).environment.pending = 0#8) := by decide

theorem witness_OnlyHaltAndStopEnterThePowerStates :
    (∃ t, step (bytesAt 0x0100 [0x76] State.reset) = .next t ∧ t.halted = true) ∧
      (∃ t, step (bytesAt 0x0100 [0x10, 0x00] State.reset) = .next t ∧ t.stopped = true) :=
  ⟨⟨_, rfl, rfl⟩, ⟨_, rfl, rfl⟩⟩

theorem witness_EveryStepKeepsTheStateLegal : State.reset.legal = true ∧ ∃ t, step State.reset = .next t :=
  ⟨rfl, _, rfl⟩

theorem witness_RomAndParametersNeverChange :
    (∃ t, step (bytesAt 0x0100 [0x77] State.reset) = .next t) ∧ (0x0000#16).toNat < 0x8000 ∧
      (0x7FFF#16).toNat < 0x8000 := ⟨⟨_, rfl⟩, by decide, by decide⟩

theorem witness_AnySplitOfAnAdvanceIsTheSame : State.reset.legal = true := rfl

/-- The first and the last offset of each clause. -/
theorem witness_PositionAfterAnyNumberOfCycles :
    (143 ≤ 65208 % 70224 / 456 ∧ 143 ≤ 70223 % 70224 / 456) ∧
      (0 % 70224 / 456 < 143 ∧ 0 % 456 < 80 ∧ 79 % 456 < 80) ∧
      (80 % 70224 / 456 < 143 ∧ 80 ≤ 80 % 456 ∧ 251 % 456 < 252) ∧
      (252 % 70224 / 456 < 143 ∧ 252 ≤ 252 % 456 ∧ 65207 % 70224 / 456 < 143 ∧ 252 ≤ 65207 % 456) := by decide

/-- The last H-blank cycle of line 142, with the request configured and not. -/
theorem witness_VBlankEntryRequestsOnlyWhenConfigured :
    let s : Bool → State := fun b => { State.reset with
      timing := { mode := .hBlank, modeCycles := 203, scanline := 142, framesReady := 0 }, vblankRequestsIf := b }
    (s true).legal = true ∧ (s true).vblankRequestsIf = true ∧
      ((s true).advance 1).timing.framesReady ≠ (s true).timing.framesReady ∧
      (s false).legal = true ∧ (s false).vblankRequestsIf = false ∧
      1 < 70224 ∧ (s true).timing.mode ≠ .vBlank ∧ ((s true).timing.advance 1).mode = .vBlank := by
  refine ⟨rfl, rfl, by decide, rfl, rfl, by decide, by decide, by decide⟩

/-- A stopped core that the same input wakes and asks for the Joypad interrupt, the highest source; and V-blank's, the
lowest, asked of a running one. -/
theorem witness_TheEnvironmentActsBeforeTheStep :
    let e : EnvInput := { requests := 0b10001#5, wake := true }
    let s : State := { State.reset.poke 0xFFFF#16 0x10#8 with stopped := true, ime := true, inputs := [e] }
    let u : State := { State.reset.poke 0xFFFF#16 0x1F#8 with ime := true, inputs := [{ e with wake := false }] }
    (s.legal = true ∧ s.fault = none ∧ s.inputs = e :: [] ∧ s.stopped = true ∧ e.wake = true ∧ s.ime = true ∧
        e.requests.getLsbD 4 = true ∧ (s.readByte 0xFFFF#16).getLsbD 4 = true ∧
        ∀ j, j < 4 → (s.readByte 0xFFFF#16).getLsbD j = false) ∧
      (u.legal = true ∧ u.fault = none ∧ u.stopped = false ∧ u.ime = true ∧ e.requests.getLsbD 0 = true ∧
        (u.readByte 0xFFFF#16).getLsbD 0 = true) ∧
      State.reset.inputs = [] := by decide

theorem witness_ResetStateIsLegal : Memory.wf [(0xC000, 0x01#8), (0xFFFF, 0x1F#8)] = true := by decide

theorem witness_ConstructionLoadsTheImageOrRefuses :
    (List.replicate 16384 (0x3C#8 : Byte)).length = 16384 ∧ ([] : List Byte).length ≠ 16384 ∧ 16383 < 16384 :=
  ⟨List.length_replicate, by decide, by decide⟩


end Sys2Proof.Tests
end

section
/-! The register pairs as views of the 8-bit registers (R21), and the packed flag byte (R24). -/

namespace Sys2Proof.Machine

/-! ## Pairs -/

/-- A pair written reads back. -/
@[simp] theorem State.pair_setPair_same (s : State) (p : Reg16) (v : Word) : (s.setPair p v).pair p = v := by
  cases p
  case BC => exact wordOf_halves v
  case DE => exact wordOf_halves v
  case HL => exact wordOf_halves v
  case SP => rfl

@[simp] theorem State.pair_BC (s : State) : s.pair .BC = wordOf s.regs.b s.regs.c := rfl
@[simp] theorem State.pair_DE (s : State) : s.pair .DE = wordOf s.regs.d s.regs.e := rfl
@[simp] theorem State.pair_HL (s : State) : s.pair .HL = wordOf s.regs.h s.regs.l := rfl

/-! ## The flag byte -/

/-- ZF, NF, HF and CF are bits 7 to 4 of the flag byte, for each of the 16 flag settings. -/
theorem Flags.pack_highBits (f : Flags) :
    f.pack.getLsbD 7 = f.z ∧ f.pack.getLsbD 6 = f.n ∧ f.pack.getLsbD 5 = f.h ∧ f.pack.getLsbD 4 = f.c := by
  obtain ⟨z, n, h, c⟩ := f
  revert z n h c
  decide

/-- The flag byte has no bits below ZF, NF, HF and CF. -/
theorem Flags.pack_lowBits (f : Flags) {i : Nat} (h : i < 4) : f.pack.getLsbD i = false := by
  unfold Flags.pack
  rw [BitVec.getLsbD_append, if_pos h, BitVec.getLsbD_zero]

/-- PUSH AF then POP AF restores the flags (R24). -/
@[simp] theorem unpackFlags_pack (f : Flags) : unpackFlags f.pack = f := by
  obtain ⟨hz, hn, hh, hc⟩ := f.pack_highBits
  rw [unpackFlags, hz, hn, hh, hc]

/-- Unpacking discards the low nibble: the mask 0xF0 is clear at the low bits and set at the four flags' bits. -/
@[simp] theorem pack_unpackFlags (b : Byte) : (unpackFlags b).pack = b &&& 0xF0#8 := by
  obtain ⟨hz, hn, hh, hc⟩ := (unpackFlags b).pack_highBits
  apply BitVec.eq_of_getLsbD_eq
  intro i hi
  rw [BitVec.getLsbD_and]
  by_cases hlow : i < 4
  · have hmask : (0xF0#8).getLsbD i = false := by interval_cases i <;> rfl
    rw [Flags.pack_lowBits _ hlow, hmask, Bool.and_false]
  · have hmask : (0xF0#8).getLsbD i = true := by interval_cases i <;> rfl
    rw [hmask, Bool.and_true]
    obtain rfl | rfl | rfl | rfl : i = 7 ∨ i = 6 ∨ i = 5 ∨ i = 4 := by omega
    · exact hz
    · exact hn
    · exact hh
    · exact hc

/-- Packing sees only the high nibble, so nothing is left of it below. -/
theorem Flags.pack_and_lowNibble (f : Flags) : f.pack &&& 0x0F#8 = 0x00#8 := by
  calc f.pack &&& 0x0F#8 = f.pack &&& 0xF0#8 &&& 0x0F#8 := by rw [← pack_unpackFlags, unpackFlags_pack]
    _ = 0x00#8 := by rw [BitVec.and_assoc]; exact BitVec.and_zero

end Sys2Proof.Machine

open Sys2Proof Sys2Proof.Machine

/-- Settles O7: each view is {hi, lo} of its registers, and the halves of a word put together are the word. -/
theorem pairViewsShareTheRegisters : Obligations.PairViewsShareTheRegisters := by
  intro s v x
  refine ⟨rfl, rfl, rfl, rfl, rfl, rfl, s.pair_setPair_same .BC v, s.pair_setPair_same .DE v,
    s.pair_setPair_same .HL v, ?_⟩
  simp only [State.pair_BC, State.pair_DE, State.pair_HL, highByte_wordOf, lowByte_wordOf]
  exact ⟨rfl, rfl, rfl, rfl, rfl, rfl⟩

/-- Settles O8, from the four bits of the packed byte and its clear low nibble. -/
theorem flagBytePacking : Obligations.FlagBytePacking := by
  intro f b
  obtain ⟨hz, hn, hh, hc⟩ := f.pack_highBits
  exact ⟨hz, hn, hh, hc, f.pack_and_lowNibble, rfl, unpackFlags_pack f, pack_unpackFlags b⟩

end

section
/-! A step of a state that runs an instruction, and the EI latch through it (R28, R90). -/

namespace Sys2Proof

/-- The form of an instruction determines it. -/
@[simp] theorem Instr.ofForm_form (i : Instr) : Instr.ofForm i.form = i := by cases i <;> rfl

/-- So two instructions of one form are one instruction. -/
theorem Instr.form_injective : Function.Injective Instr.form := Function.LeftInverse.injective Instr.ofForm_form

theorem Instr.form_ne {i j : Instr} (h : i ≠ j) : i.form ≠ j.form := Instr.form_injective.ne h

/-- A well-formed instruction is of no illegal form. -/
theorem Instr.form_ne_illegal {i : Instr} (h : i.wf = true) (k : IllegalByte) : i.form ≠ .illegal k := by
  intro hk
  rw [Instr.wf, hk] at h
  exact Bool.false_ne_true h

namespace Machine

/-- What the bytes at PC decode to is the instruction a fetch gives. -/
theorem State.instrAt_of_decode {s : State} {i : Instr} {rest : List Byte}
    (h : decode s.nextBytes = .ok (i, rest)) : s.instrAt = i := by
  unfold decode State.nextBytes at h
  dsimp only at h
  split at h
  · cases h
  · injection h with h
    exact congrArg Prod.fst h

/-- What a state that runs an instruction is free of: a fault, a power state, a due dispatch, an input. -/
theorem State.runs_iff (s : State) :
    s.runs = true ↔ s.fault = none ∧ s.stopped = false ∧ s.halted = false ∧
      (s.ime && s.pending != 0x00#8) = false ∧ s.inputs = [] := by
  simp only [State.runs, Bool.and_eq_true, beq_iff_eq, Bool.not_eq_true', and_assoc]

/-- Every form but an illegal byte's returns a count; a conditional transfer returns one of two. -/
theorem Form.after_lastCycles {f : Form} (h : ∀ k, f ≠ .illegal k) (s : State) :
    ∃ n, (f.after s).lastCycles = some n := by
  cases f
  case illegal k => exact absurd rfl (h k)
  case jpCond | jrCond | callCond | retCond => dsimp only [Form.after]; split <;> exact ⟨_, rfl⟩
  all_goals exact ⟨_, rfl⟩

/-- No form but EI's and DI's touches the EI latch. -/
theorem Form.after_eiDelay {f : Form} (hei : f ≠ .ei) (hdi : f ≠ .di) (s : State) :
    (f.after s).eiDelay = s.eiDelay := by
  cases f
  case ei => exact absurd rfl hei
  case di => exact absurd rfl hdi
  case jpCond | jrCond | callCond | retCond =>
    dsimp only [Form.after]; split <;> simp [State.counted, State.called, State.returned]
  all_goals
    simp [Form.after, State.counted, State.called, State.returned, State.memUpdated, State.withA, State.regUpdated,
      State.raiseIllegal]

@[simp] theorem State.atInstr_ime (s : State) : s.atInstr.ime = s.ime := by simp [State.atInstr]
@[simp] theorem State.atInstr_eiDelay (s : State) : s.atInstr.eiDelay = false := by simp [State.atInstr]

/-- The state a running state's step leaves before the timing advance: the instruction at PC has run, and a pending EI
has set IME unless the instruction is DI. -/
def State.ran (s : State) : State :=
  if s.eiDelay && s.instrAt != .di then { s.instrAt.form.after s.atInstr with ime := true }
  else s.instrAt.form.after s.atInstr

/-- A step of a running state at a well-formed instruction. -/
theorem step_of_runs {s : State} (hr : s.runs = true) (hw : s.instrAt.wf = true) :
    ∃ n, s.ran.lastCycles = some n ∧ step s = .next (s.ran.advance n) := by
  obtain ⟨hfault, hstop, hhalt, hdue, hin⟩ := s.runs_iff.mp hr
  have hlegal := Instr.form_ne_illegal hw
  have hawake : s.awake = s := by rw [State.awake, ← hhalt]
  obtain ⟨n, hn⟩ := Form.after_lastCycles hlegal s.atInstr
  have hran : s.ran.lastCycles = some n := by unfold State.ran; split <;> exact hn
  have hstep : step s = advanceAfter (.next s.ran) := by
    rw [step, State.environment_nil hin, machineStep_eq hfault, hawake, decoderStep_run s hfault hlegal]
    simp only [hstop, hhalt, hdue, Bool.false_and, Bool.false_eq_true, if_false]
    rfl
  exact ⟨n, hran, by rw [hstep, advanceAfter]; simp only [hran]⟩

/-- With EI pending, IME is 1 after any instruction but DI. -/
theorem State.ran_ime_of_pending {s : State} (he : s.eiDelay = true) (hi : s.instrAt ≠ .di) : s.ran.ime = true := by
  simp [State.ran, he, hi]

/-- EI itself leaves IME, so IME after it is set only by an EI before it. -/
theorem State.ran_ime_of_ei {s : State} (hi : s.instrAt = .ei) : s.ran.ime = (s.ime || s.eiDelay) := by
  cases he : s.eiDelay
  case false =>
    rw [State.ran, he, hi, Bool.false_and, if_neg Bool.false_ne_true, Bool.or_false]
    exact s.atInstr_ime
  case true => rw [State.ran_ime_of_pending he (by rw [hi]; decide), Bool.or_true]

/-- DI clears IME, a pending EI or not. -/
theorem State.ran_ime_of_di {s : State} (hi : s.instrAt = .di) : s.ran.ime = false := by
  rw [State.ran, hi, bne_self_eq_false, Bool.and_false, if_neg Bool.false_ne_true]
  rfl

/-- The latch, cleared by the fetch, is set after a step exactly when the step's instruction is EI. -/
theorem State.ran_eiDelay (s : State) : s.ran.eiDelay = (s.instrAt == .ei) := by
  have hran : s.ran.eiDelay = (s.instrAt.form.after s.atInstr).eiDelay := by unfold State.ran; split <;> rfl
  by_cases hei : s.instrAt = .ei
  · rw [hran, hei]; rfl
  · rw [hran, beq_false_of_ne hei]
    by_cases hdi : s.instrAt = .di
    · rw [hdi]; rfl
    · rw [Form.after_eiDelay (Instr.form_ne hei) (Instr.form_ne hdi), State.atInstr_eiDelay]

end Machine
end Sys2Proof

open Sys2Proof Sys2Proof.Machine

/-- Settles O45: the step of a running state is the instruction at PC followed by the pending EI, and an advance of the
timing controller touches neither IME nor the latch. -/
theorem eiTakesEffectAfterOneInstruction : Obligations.EiTakesEffectAfterOneInstruction := by
  refine ⟨fun s rest hr hd => ?_, fun s i rest hr he hd hw hi => ?_, fun s rest hr hd => ?_, State.dispatch_eiDelay⟩
  · have hat := State.instrAt_of_decode hd
    obtain ⟨n, -, hstep⟩ := step_of_runs hr (by rw [hat]; rfl)
    exact ⟨_, hstep, by rw [State.advance_eiDelay, State.ran_eiDelay, hat]; rfl,
      by rw [State.advance_ime, State.ran_ime_of_ei hat]⟩
  · obtain rfl := State.instrAt_of_decode hd
    obtain ⟨n, -, hstep⟩ := step_of_runs hr hw
    exact ⟨_, hstep, by rw [State.advance_ime, State.ran_ime_of_pending he hi],
      by rw [State.advance_eiDelay, State.ran_eiDelay, beq_iff_eq]⟩
  · have hat := State.instrAt_of_decode hd
    obtain ⟨n, -, hstep⟩ := step_of_runs hr (by rw [hat]; rfl)
    exact ⟨_, hstep, by rw [State.advance_ime, State.ran_ime_of_di hat],
      by rw [State.advance_eiDelay, State.ran_eiDelay, hat]; rfl⟩

end

section
/-! Reads and writes by the address's range (R51 to R65), the echo range (R58), and word accesses (R66, R67). -/

namespace Sys2Proof.Machine

/-! ## The cell of an address -/

/-- The four ranges of storage, as propositions. -/
theorem isCell_eq_true {k : Nat} : isCell k = true ↔
    k < 0x4000 ∨ (0x8000 ≤ k ∧ k < 0xE000) ∨ (0xFE00 ≤ k ∧ k < 0xFEA0) ∨ (0xFF00 ≤ k ∧ k ≤ 0xFFFF ∧ k ≠ 0xFF44) := by
  simp only [isCell, Bool.or_eq_true, Bool.and_eq_true, decide_eq_true_eq, bne_iff_ne, or_assoc, and_assoc]

/-- An address with storage of its own reaches that storage. -/
theorem cellOf_of_isCell {a : Word} (h : isCell a.toNat = true) : cellOf a = some a.toNat := by
  have hr := region_holds a
  rw [isCell_eq_true] at h
  unfold cellOf
  generalize region a = r at hr
  cases r <;> simp only [Region.holds] at hr
  case io => exact if_neg (by rw [eq_lyAddr]; omega)
  case echo | unused | rom1 => omega
  all_goals rfl

theorem cellOf_echo {a : Word} (h : region a = .echo) : cellOf a = some (a.toNat - 0x2000) := by rw [cellOf, h]

theorem cellOf_rom1 {a : Word} (h : region a = .rom1) : cellOf a = none := by rw [cellOf, h]

theorem cellOf_unused {a : Word} (h : region a = .unused) : cellOf a = none := by rw [cellOf, h]

/-- Above the ROM banks a write reaches what a read reaches. -/
theorem storeCell_of_ge {a : Word} (h : 0x8000 ≤ a.toNat) : storeCell a = cellOf a := by
  refine if_neg fun h0 => ?_
  have hr := region_holds a
  rw [h0] at hr
  exact absurd hr (by simp only [Region.holds]; omega)

/-- In the ROM banks a write reaches nothing. -/
theorem storeCell_of_lt {a : Word} (h : a.toNat < 0x8000) : storeCell a = none := by
  obtain h | h := region_rom h
  · exact if_pos h
  · rw [storeCell, if_neg (by rw [h]; decide), cellOf_rom1 h]

/-! ## Byte accesses by the cell -/

theorem State.readByte_of_cellOf (s : State) {a : Word} {k : Nat} (hj : a ≠ joypAddr) (h : cellOf a = some k) :
    s.readByte a = s.mem.get k := by
  rw [State.readByte_eq s a hj, h]

theorem State.readByte_of_cellOf_none (s : State) {a : Word} (hj : a ≠ joypAddr) (hl : a ≠ lyAddr)
    (h : cellOf a = none) : s.readByte a = 0x00#8 := by
  rw [State.readByte_eq s a hj, h]
  exact if_neg hl

theorem State.writeByte_of_storeCell (s : State) {a : Word} {k : Nat} (v : Byte) (h : storeCell a = some k) :
    s.writeByte a v = { s with mem := s.mem.set k v } := by
  rw [State.writeByte_eq, h]

theorem State.writeByte_of_storeCell_none (s : State) {a : Word} (v : Byte) (h : storeCell a = none) :
    s.writeByte a v = s := by
  rw [State.writeByte_eq, h]

/-- A write to a ROM bank is ignored (R53, R54). -/
theorem State.writeByte_rom (s : State) {a : Word} (v : Byte) (h : a.toNat < 0x8000) : s.writeByte a v = s :=
  s.writeByte_of_storeCell_none v (storeCell_of_lt h)

/-- A write above the ROM banks stores at an address with storage of its own. -/
theorem State.writeByte_own (s : State) {a : Word} (v : Byte) (hc : isCell a.toNat = true) (hge : 0x8000 ≤ a.toNat) :
    s.writeByte a v = { s with mem := s.mem.set a.toNat v } :=
  s.writeByte_of_storeCell v ((storeCell_of_ge hge).trans (cellOf_of_isCell hc))

/-- A byte with storage of its own above the ROM banks, 0xFF00 apart, is read and written there. -/
theorem State.access_own (s : State) {a : Word} (v : Byte) (hc : isCell a.toNat = true) (hge : 0x8000 ≤ a.toNat)
    (hj : a ≠ joypAddr) : s.readByte a = s.mem.get a.toNat ∧ s.writeByte a v = { s with mem := s.mem.set a.toNat v } :=
  ⟨s.readByte_of_cellOf hj (cellOf_of_isCell hc), s.writeByte_own v hc hge⟩

/-! ## Plain storage -/

theorem plainStorage_of_wram {a : Word} (h : region a = .wram) : plainStorage a = true := by rw [plainStorage, h]

theorem plainStorage_sameByte {a : Word} (h : plainStorage a = true) : sameByte a a = true := by
  obtain ⟨k, hk⟩ := plainStorage_storeCell h
  simp [sameByte, storeCell_cellOf hk]

/-- In canonical memory a write to plain storage is read back. -/
theorem State.readByte_writeByte_self {s : State} (hw : s.mem.wf = true) {a : Word} (v : Byte)
    (ha : plainStorage a = true) : (s.writeByte a v).readByte a = v :=
  State.readByte_writeByte_same hw v ha (plainStorage_sameByte ha)

/-- No two neighbouring addresses reach one storage byte, the wrap from 0xFFFF to 0x0000 and the borders of the echo
range included. -/
theorem sameByte_succ (a : Word) : sameByte a (a + 1) = false := by
  by_contra h
  simp only [sameByte, Bool.not_eq_false, Bool.and_eq_true, beq_iff_eq, Option.isSome_iff_exists] at h
  obtain ⟨⟨k, hk⟩, heq⟩ := h
  have hk' : cellOf (a + 1) = some k := heq ▸ hk
  have hlt := a.isLt
  have hsucc : (a + 1).toNat = (a.toNat + 1) % 65536 := BitVec.toNat_add a 1
  obtain ⟨-, ⟨ha, -⟩ | ⟨ha, -⟩⟩ := cellOf_cases hk <;> obtain ⟨-, ⟨hb, -⟩ | ⟨hb, -⟩⟩ := cellOf_cases hk' <;> omega

/-! ## Word accesses -/

theorem State.afterRead_of_ne (s : State) {a : Word} (h : a ≠ joypAddr) : s.afterRead a = s := if_neg h

/-- A word read that takes no draw for its low byte is two byte reads of one state. -/
theorem State.readWord_of_ne (s : State) {a : Word} (h : a ≠ joypAddr) :
    s.readWord a = wordOf (s.readByte (a + 1)) (s.readByte a) := by
  rw [State.readWord, s.afterRead_of_ne h]

/-- A word read at neither byte of which there is a draw leaves the state. -/
theorem State.afterReadWord_of_ne (s : State) {a : Word} (h : a ≠ joypAddr) (h1 : a + 1 ≠ joypAddr) :
    s.afterReadWord a = s := by
  rw [State.afterReadWord, s.afterRead_of_ne h, s.afterRead_of_ne h1]

/-- In canonical memory a word written to plain storage is read back: the high byte's write leaves the low byte. -/
theorem State.readWord_writeWord {s : State} (hw : s.mem.wf = true) {a : Word} (v : Word) (ha : plainStorage a = true)
    (ha1 : plainStorage (a + 1) = true) : (s.writeWord a v).readWord a = v := by
  have hlow : (s.writeWord a v).readByte a = lowByte v :=
    (State.readByte_writeByte_other _ _ (sameByte_succ a)).trans (State.readByte_writeByte_self hw _ ha)
  have hhigh : (s.writeWord a v).readByte (a + 1) = highByte v :=
    State.readByte_writeByte_self (State.writeByte_wf hw _ _) _ ha1
  rw [State.readWord_of_ne _ (plainStorage_ne ha), hlow, hhigh, wordOf_halves]

end Sys2Proof.Machine

open Sys2Proof Sys2Proof.Machine

/-- Settles O9, range by range: which storage cell the address reaches gives both the read and the write. -/
theorem everyAddressReadsAsItsRegionSays : Obligations.EveryAddressReadsAsItsRegionSays := by
  intro s a v
  have hlast : a.toNat ≤ 0xFFFF := Nat.le_of_lt_succ a.isLt
  have hjoyp : a.toNat ≠ 0xFF00 → a ≠ joypAddr := mt eq_joypAddr.mp
  have hly : a.toNat ≠ 0xFF44 → a ≠ lyAddr := mt eq_lyAddr.mp
  refine ⟨fun hlt => ?rom0, fun hge hlt => ?rom1, fun hge hlt => ?vramToWram, fun hge hlt => ?echo,
    fun hge hlt => ?oam, fun hge hlt => ?unused, fun heq => ?joyp, fun heq => ?ly, fun hgt hne => ?highPage⟩
  case rom0 =>
    exact ⟨s.readByte_of_cellOf (hjoyp (by omega)) (cellOf_of_isCell (isCell_eq_true.mpr (.inl hlt))),
      s.writeByte_rom v (by omega)⟩
  case rom1 =>
    exact ⟨s.readByte_of_cellOf_none (hjoyp (by omega)) (hly (by omega)) (cellOf_rom1 (region_eq ⟨hge, hlt⟩)),
      s.writeByte_rom v hlt⟩
  case vramToWram => exact s.access_own v (isCell_eq_true.mpr (by omega)) hge (hjoyp (by omega))
  case echo =>
    have hk := cellOf_echo (region_eq (r := .echo) ⟨hge, hlt⟩)
    exact ⟨s.readByte_of_cellOf (hjoyp (by omega)) hk,
      s.writeByte_of_storeCell v ((storeCell_of_ge (by omega)).trans hk)⟩
  case oam => exact s.access_own v (isCell_eq_true.mpr (by omega)) (by omega) (hjoyp (by omega))
  case unused =>
    have hk := cellOf_unused (region_eq (r := .unused) ⟨hge, hlt⟩)
    exact ⟨s.readByte_of_cellOf_none (hjoyp (by omega)) (hly (by omega)) hk,
      s.writeByte_of_storeCell_none v ((storeCell_of_ge (by omega)).trans hk)⟩
  case joyp =>
    have hwrite := s.writeByte_own (a := a) v (isCell_eq_true.mpr (by omega)) (by omega)
    rw [heq] at hwrite
    obtain rfl := eq_joypAddr.mpr heq
    exact ⟨s.readByte_joyp, hwrite⟩
  case ly => obtain rfl := eq_lyAddr.mpr heq; exact ⟨rfl, rfl⟩
  case highPage => exact s.access_own v (isCell_eq_true.mpr (by omega)) (by omega) (hjoyp (by omega))

/-- Settles O11: both addresses reach the working-RAM cell. -/
theorem echoAliasesWorkingRam : Obligations.EchoAliasesWorkingRam := by
  intro s a v hge hle
  have hsum : (a + 0x2000#16).toNat = a.toNat + 0x2000 :=
    BitVec.toNat_add_of_lt (x := a) (y := 0x2000#16) (by simp; omega)
  have hplain : plainStorage a = true := plainStorage_of_wram (region_eq ⟨hge, by omega⟩)
  have hcell : cellOf a = some a.toNat := cellOf_of_isCell (isCell_eq_true.mpr (by omega))
  have hecho : cellOf (a + 0x2000#16) = some a.toNat := by
    rw [cellOf_echo (region_eq ⟨by omega, by omega⟩), hsum, Nat.add_sub_cancel]
  have hsame : sameByte (a + 0x2000#16) a = true := by simp [sameByte, hcell, hecho]
  have hwrite : s.writeByte (a + 0x2000#16) v = s.writeByte a v := by
    rw [State.writeByte_eq, State.writeByte_eq, storeCell_of_ge (by omega), storeCell_of_ge (by omega), hcell, hecho]
  refine ⟨fun hw => State.readByte_writeByte_same hw v hplain hsame, fun hw => ?_, hwrite, ?_⟩
  · rw [hwrite]
    exact State.readByte_writeByte_self hw v hplain
  · have hj : a + 0x2000#16 ≠ joypAddr := mt eq_joypAddr.mp (by omega)
    rw [s.readByte_of_cellOf hj hecho, s.readByte_of_cellOf (plainStorage_ne hplain) hcell]

/-- Settles O12: at 0xFFFF the second address is in ROM bank 0, where the write is ignored. -/
theorem wordAccessesAreLittleEndian : Obligations.WordAccessesAreLittleEndian := by
  intro s a v
  have hread := s.readWord_of_ne (a := 0xFFFF#16) (by decide)
  refine ⟨rfl, rfl, ?_, ?_, State.writeByte_rom _ _ (by decide)⟩
  · rw [hread, lowByte_wordOf]
  · rw [hread, highByte_wordOf]
    rfl

end

section
/-! The stack: what PUSH stores is what POP of the same pair reads (R68, R69). -/

namespace Sys2Proof.Machine

/-- A stack pair set to the value it has in `s` gives back the registers of `s`. -/
theorem State.setStackPair_stackPair_regs {s t : State} (p : StackPair) (h : t.regs = s.regs) :
    (t.setStackPair p (s.stackPair p)).regs = s.regs := by
  cases p <;> simp [State.setStackPair, State.stackPair, State.bc, State.de, State.hl, h]

/-- It gives back the flags of `s`: AF through the packed byte, the other pairs untouched. -/
theorem State.setStackPair_stackPair_flags {s t : State} (p : StackPair) (h : t.flags = s.flags) :
    (t.setStackPair p (s.stackPair p)).flags = s.flags := by
  cases p
  case AF => simp [State.setStackPair, State.stackPair]
  case BC | DE | HL => exact h

/-- In canonical memory a pushed value whose bytes lie in plain storage is on top of the stack. -/
theorem State.readWord_push16 {s : State} (hw : s.mem.wf = true) (v : Word) (hlo : plainStorage (s.sp - 2) = true)
    (hhi : plainStorage (s.sp - 2 + 1) = true) : (s.push16 v).readWord (s.sp - 2) = v :=
  State.readWord_writeWord (s := { s with sp := s.sp - 2 }) hw v hlo hhi

/-- A read does not look at the count of cycles. -/
theorem State.readWord_counted (s : State) (n : Nat) (a : Word) : (s.counted n).readWord a = s.readWord a := by
  unfold State.readWord State.afterRead
  split <;> rfl

/-! ## PUSH -/

@[simp] theorem Form.after_push_regs (p : StackPair) (s : State) : ((Form.push p).after s).regs = s.regs :=
  s.push16_regs _
@[simp] theorem Form.after_push_flags (p : StackPair) (s : State) : ((Form.push p).after s).flags = s.flags :=
  s.push16_flags _
@[simp] theorem Form.after_push_sp (p : StackPair) (s : State) : ((Form.push p).after s).sp = s.sp - 2 := s.push16_sp _
@[simp] theorem Form.after_push_joypadReads (p : StackPair) (s : State) :
    ((Form.push p).after s).joypadReads = s.joypadReads := s.push16_joypadReads _

/-- After a PUSH onto plain storage, POP reads the pushed pair. -/
theorem State.popValue_after_push {s : State} (p : StackPair) (hw : s.mem.wf = true)
    (hlo : plainStorage (s.sp - 2) = true) (hhi : plainStorage (s.sp - 2 + 1) = true) :
    ((Form.push p).after s).popValue = s.stackPair p := by
  rw [State.popValue, Form.after_push_sp]
  exact (State.readWord_counted _ _ _).trans (State.readWord_push16 hw _ hlo hhi)

/-! ## POP -/

@[simp] theorem Form.after_pop_sp (p : StackPair) (s : State) : ((Form.pop p).after s).sp = s.sp + 2 :=
  s.afterPop.setStackPair_sp p _

/-- A POP of the value the pair has in `s` gives back the registers of `s`. -/
theorem Form.after_pop_regs {s t : State} {p : StackPair} (hpop : t.popValue = s.stackPair p) (h : t.regs = s.regs) :
    ((Form.pop p).after t).regs = s.regs := by
  rw [Form.after, hpop]
  exact State.setStackPair_stackPair_regs p (t.afterPop_regs.trans h)

/-- It gives back the flags of `s`. -/
theorem Form.after_pop_flags {s t : State} {p : StackPair} (hpop : t.popValue = s.stackPair p)
    (h : t.flags = s.flags) : ((Form.pop p).after t).flags = s.flags := by
  rw [Form.after, hpop]
  exact State.setStackPair_stackPair_flags p (t.afterPop_flags.trans h)

/-- A POP of two bytes away from 0xFF00 takes no draw. -/
theorem Form.after_pop_joypadReads (p : StackPair) {s : State} (h : s.sp ≠ joypAddr) (h1 : s.sp + 1 ≠ joypAddr) :
    ((Form.pop p).after s).joypadReads = s.joypadReads := by
  rw [Form.after, State.afterPop, s.afterReadWord_of_ne h h1]
  exact State.setStackPair_joypadReads _ p _

end Sys2Proof.Machine

open Sys2Proof Sys2Proof.Machine

/-- Settles O19: the word POP reads is the word PUSH stored, and neither of its bytes is at 0xFF00. -/
theorem pushThenPopRestores : Obligations.PushThenPopRestores := by
  intro p s
  refine ⟨rfl, rfl, (Form.push p).after s, (Form.pop p).after ((Form.push p).after s), exec_ofForm _ s, exec_ofForm _ _,
    by simp, fun hw hlo hhi => ?_⟩
  rw [show s.sp - 1 = s.sp - 2 + 1 by bv_omega] at hhi
  have hpop := State.popValue_after_push p hw hlo hhi
  have hdraws := Form.after_pop_joypadReads p (s := (Form.push p).after s)
    (by simpa using plainStorage_ne hlo) (by simpa using plainStorage_ne hhi)
  exact ⟨Form.after_pop_regs hpop (Form.after_push_regs p s), Form.after_pop_flags hpop (Form.after_push_flags p s),
    hdraws.trans (Form.after_push_joypadReads p s)⟩

end

section
/-! The loads, stores and stack instructions, form by form: the bytes and the exact next state (R100 to R125). -/

namespace Sys2Proof

/-! ## Encodings -/

theorem encode_ldRegReg (d r : Reg8) : encode (.ofForm (.ldRegReg d r)) = [0b01#2 ++ d.code ++ r.code] := by
  cases d <;> cases r <;> rfl

theorem encode_ldRegImm (d : Reg8) (d8 : Byte) :
    encode (.ofForm (.ldRegImm d d8)) = [0b00#2 ++ d.code ++ 0b110#3, d8] := by
  cases d <;> rfl

theorem encode_ldRegHL (d : Reg8) : encode (.ofForm (.ldRegHL d)) = [0b01#2 ++ d.code ++ 0b110#3] := by
  cases d <;> rfl

theorem encode_ldHLReg (r : Reg8) : encode (.ofForm (.ldHLReg r)) = [0b01110#5 ++ r.code] := by
  cases r <;> rfl

theorem encode_ldPairImm (p : Reg16) (d16 : Word) :
    encode (.ofForm (.ldPairImm p d16)) = [0b00#2 ++ p.code ++ 0b0001#4, lowByte d16, highByte d16] := by
  cases p <;> rfl

theorem encode_push (p : StackPair) : encode (.ofForm (.push p)) = [0b11#2 ++ p.code ++ 0b0101#4] := by
  cases p <;> rfl

theorem encode_pop (p : StackPair) : encode (.ofForm (.pop p)) = [0b11#2 ++ p.code ++ 0b0001#4] := by
  cases p <;> rfl

end Sys2Proof

namespace Sys2Proof.Machine

/-! ## Next states -/

/-- The `a8` operand (R88) by the sum that the spec writes. -/
theorem highPage_eq (a8 : Byte) : highPage a8 = 0xFF00#16 + a8.setWidth 16 := by
  apply BitVec.eq_of_toNat_eq
  have hlt := a8.isLt
  rw [highPage, wordOf, BitVec.toNat_append, ← Nat.shiftLeft_add_eq_or_of_lt hlt]
  simp
  omega

/-- A form that reads a byte into a register: a read leaves the other registers. -/
theorem exec_loadByte {f : Form} {s : State} {a : Word} {n : Nat} (r : Reg8) (v : Byte)
    (h : f.after s = ((s.afterRead a).setReg r v).counted n) :
    exec (.ofForm f) s = .next { s.afterRead a with regs := s.regs.set r v, lastCycles := some n } := by
  rw [exec_ofForm, h, State.counted, State.setReg, State.afterRead_regs]

/-- A form that stores A at HL and then replaces HL: a write leaves the other registers. -/
theorem exec_storeThenHL {f : Form} {s : State} {v : Byte} {n : Nat} (hl' : Word)
    (h : f.after s = ((s.writeByte s.hl v).setHL hl').counted n) :
    exec (.ofForm f) s =
      .next { s.writeByte s.hl v with
        regs := { s.regs with h := highByte hl', l := lowByte hl' }, lastCycles := some n } := by
  rw [exec_ofForm, h, State.counted, State.setHL, State.writeByte_regs]

/-- A form that loads A from HL and then replaces HL. -/
theorem exec_loadThenHL {f : Form} {s : State} {v : Byte} {n : Nat} (hl' : Word)
    (h : f.after s = (((s.afterRead s.hl).setReg .A v).setHL hl').counted n) :
    exec (.ofForm f) s =
      .next { s.afterRead s.hl with
        regs := { s.regs with a := v, h := highByte hl', l := lowByte hl' }, lastCycles := some n } := by
  rw [exec_ofForm, h, State.counted, State.setHL, State.setReg, State.afterRead_regs]
  rfl

theorem State.setStackPair_BC (s : State) (hi lo : Byte) :
    s.setStackPair .BC (wordOf hi lo) = { s with regs := { s.regs with b := hi, c := lo } } := by
  simp [State.setStackPair, State.setBC]

theorem State.setStackPair_DE (s : State) (hi lo : Byte) :
    s.setStackPair .DE (wordOf hi lo) = { s with regs := { s.regs with d := hi, e := lo } } := by
  simp [State.setStackPair, State.setDE]

theorem State.setStackPair_HL (s : State) (hi lo : Byte) :
    s.setStackPair .HL (wordOf hi lo) = { s with regs := { s.regs with h := hi, l := lo } } := by
  simp [State.setStackPair, State.setHL]

theorem State.setStackPair_AF (s : State) (hi lo : Byte) :
    s.setStackPair .AF (wordOf hi lo) = { s with regs := { s.regs with a := hi }, flags := unpackFlags lo } := by
  simp [State.setStackPair]

/-- POP sets the pair from the byte at SP and the byte at SP + 1, read in that order (R69). -/
theorem exec_pop (p : StackPair) (s : State) :
    exec (.ofForm (.pop p)) s =
      .next ((s.afterPop.setStackPair p
        (wordOf ((s.afterRead s.sp).readByte (s.sp + 1)) (s.readByte s.sp))).counted 12) :=
  exec_ofForm (.pop p) s

end Sys2Proof.Machine

open Sys2Proof Sys2Proof.Machine

/-- Settles O13: the rows of the two forms by their registers, and `Form.after` of each form. -/
theorem loadRegisterFromRegisterAndImmediate : Obligations.LoadRegisterFromRegisterAndImmediate := by
  intro d r d8 s
  exact ⟨encode_ldRegReg d r, exec_ofForm (.ldRegReg d r) s, encode_ldRegImm d d8, exec_ofForm (.ldRegImm d d8) s⟩

/-- Settles O14: the read's effect, the count of joypad draws, leaves the registers. -/
theorem loadThroughHL : Obligations.LoadThroughHL := by
  intro r d8 s
  exact ⟨encode_ldRegHL r, exec_loadByte r _ rfl, encode_ldHLReg r, exec_ofForm (.ldHLReg r) s, rfl,
    exec_ofForm (.ldHLImm d8) s⟩

/-- Settles O15: the address is the pair before the instruction, and HL is replaced after the access. -/
theorem loadAThroughPairs : Obligations.LoadAThroughPairs := by
  intro s
  refine ⟨rfl, rfl, rfl, rfl, rfl, rfl, rfl, rfl, ?_⟩
  exact ⟨exec_loadByte .A _ rfl, exec_loadByte .A _ rfl, exec_ofForm .ldBCA s,
    exec_ofForm .ldDEA s, exec_storeThenHL (s.hl + 1) rfl, exec_storeThenHL (s.hl - 1) rfl,
    exec_loadThenHL (s.hl + 1) rfl, exec_loadThenHL (s.hl - 1) rfl⟩

/-- Settles O16: the high-page addresses are the sums of the statement. -/
theorem loadAAtAbsoluteAndHighPageAddresses : Obligations.LoadAAtAbsoluteAndHighPageAddresses := by
  intro a16 a8 s
  rw [← highPage_eq, ← highPage_eq]
  refine ⟨rfl, rfl, rfl, rfl, rfl, rfl, ?_⟩
  exact ⟨exec_ofForm (.ldAddrA a16) s, exec_loadByte .A _ rfl, exec_ofForm (.ldhAddrA a8) s, exec_loadByte .A _ rfl,
    exec_ofForm .ldCA s, exec_loadByte .A _ rfl⟩

/-- Settles O17: the word write of LD (a16),SP is the two byte writes, the low byte first. -/
theorem sixteenBitLoads : Obligations.SixteenBitLoads := by
  intro p d16 a16 s
  exact ⟨encode_ldPairImm p d16, exec_ofForm (.ldPairImm p d16) s, rfl, exec_ofForm (.ldAddrSP a16) s, rfl,
    exec_ofForm .ldSPHL s⟩

/-- Settles O18: PUSH is the word write below SP; POP sets the pair from the two bytes read, and the reads leave the
registers. -/
theorem pushAndPopInstructions : Obligations.PushAndPopInstructions := by
  intro p s
  refine ⟨encode_push p, exec_ofForm (.push p) s, rfl, rfl, rfl, rfl, encode_pop p, ?bc, ?de, ?hl, ?af⟩
  case bc => rw [exec_pop, State.setStackPair_BC, State.afterPop_regs]; rfl
  case de => rw [exec_pop, State.setStackPair_DE, State.afterPop_regs]; rfl
  case hl => rw [exec_pop, State.setStackPair_HL, State.afterPop_regs]; rfl
  case af => rw [exec_pop, State.setStackPair_AF, State.afterPop_regs]; rfl

end

section
/-! The 8-bit ALU helpers as exact sums, differences and steps (R140 to R146). -/

namespace Sys2Proof.Machine

/-! ## Bytes and carries as numbers -/

@[simp] theorem carryNat_eq (c : Bool) : carryNat c = c.toNat := by cases c <;> rfl

/-- The low nibble of a byte is the byte modulo 16. -/
theorem toNat_and_lowNibble (v : Byte) : (v &&& 0x0F#8).toNat = v.toNat % 16 := by
  rw [BitVec.toNat_and]
  exact Nat.and_two_pow_sub_one_eq_mod v.toNat 4

/-- The test of a byte against a literal is the test of its number. -/
theorem beq_eq_decide_toNat (v w : Byte) : (v == w) = decide (v.toNat = w.toNat) :=
  (beq_eq_decide v w).trans (decide_eq_decide.mpr BitVec.toNat_eq)

theorem toNat_add_one (v : Byte) : (v + 1).toNat = (v.toNat + 1) % 256 := BitVec.toNat_add v 1

theorem toNat_sub_one (v : Byte) : (v - 1).toNat = (v.toNat + 255) % 256 := by
  rw [BitVec.toNat_sub, Nat.add_comm]
  rfl

/-! ## Add8 (R140) -/

theorem add8_result_toNat (a v : Byte) (cin : Bool) :
    (add8 a v cin).1.toNat = (a.toNat + v.toNat + cin.toNat) % 256 := by
  rw [add8, carryNat_eq]
  exact BitVec.toNat_ofNat _ 8

theorem add8_z_iff (a v : Byte) (cin : Bool) :
    (add8 a v cin).2.z = true ↔ (a.toNat + v.toNat + cin.toNat) % 256 = 0 := by
  rw [← add8_result_toNat]
  exact beq_iff_eq.trans BitVec.toNat_eq

/-- H is the carry out of the low nibbles. -/
theorem add8_h_iff (a v : Byte) (cin : Bool) :
    (add8 a v cin).2.h = true ↔ a.toNat % 16 + v.toNat % 16 + cin.toNat > 15 := by
  simp only [add8, toNat_and_lowNibble, carryNat_eq, decide_eq_true_eq]

/-- C is the carry out of the whole sum. -/
theorem add8_c_iff (a v : Byte) (cin : Bool) : (add8 a v cin).2.c = true ↔ a.toNat + v.toNat + cin.toNat > 255 := by
  simp [add8]

/-! ## Sub8 (R141) -/

theorem sub8_result_toNat (a v : Byte) (cin : Bool) :
    ((sub8 a v cin).1.toNat : Int) = ((a.toNat : Int) - v.toNat - cin.toNat) % 256 := by
  rw [sub8, carryNat_eq, BitVec.toNat_ofInt]
  exact Int.toNat_of_nonneg (Int.emod_nonneg _ (by decide))

theorem sub8_z_iff (a v : Byte) (cin : Bool) :
    (sub8 a v cin).2.z = true ↔ ((a.toNat : Int) - v.toNat - cin.toNat) % 256 = 0 := by
  rw [← sub8_result_toNat, Int.natCast_eq_zero]
  exact beq_iff_eq.trans BitVec.toNat_eq

/-- H is the borrow of the low nibble. -/
theorem sub8_h_iff (a v : Byte) (cin : Bool) :
    (sub8 a v cin).2.h = true ↔ a.toNat % 16 < v.toNat % 16 + cin.toNat := by
  simp only [sub8, toNat_and_lowNibble, carryNat_eq, decide_eq_true_eq]

/-- C is the borrow of the byte. -/
theorem sub8_c_iff (a v : Byte) (cin : Bool) : (sub8 a v cin).2.c = true ↔ a.toNat < v.toNat + cin.toNat := by
  simp [sub8]

/-! ## The logic helpers' zero flag (R143, R144) -/

/-- The exclusive or is zero exactly for equal operands. -/
theorem xor8_flags (a v : Byte) : (xor8 a v).2 = { z := decide (a = v), n := false, h := false, c := false } := by
  simp only [xor8, beq_eq_decide, BitVec.xor_eq_zero_iff]

/-- The or is zero exactly for two zeros. -/
theorem or8_flags (a v : Byte) :
    (or8 a v).2 = { z := decide (a = 0#8 ∧ v = 0#8), n := false, h := false, c := false } := by
  simp only [or8, beq_eq_decide, BitVec.or_eq_zero_iff]

/-! ## Inc8 and Dec8 (R145, R146) -/

/-- Inc8 gives zero for 255 alone, and carries out of a low nibble of 15. -/
theorem inc8_flags (v : Byte) (f : Flags) :
    (inc8 v f).2 = { z := decide (v.toNat = 255), n := false, h := decide (v.toNat % 16 = 15), c := f.c } := by
  have hz : (v.toNat + 1) % 256 = 0 ↔ v.toNat = 255 := by omega
  simp only [inc8, beq_eq_decide_toNat, toNat_add_one, toNat_and_lowNibble, BitVec.toNat_ofNat, Nat.zero_mod, hz]

/-- Dec8 gives zero for 1 alone, and borrows into a low nibble of 0. -/
theorem dec8_flags (v : Byte) (f : Flags) :
    (dec8 v f).2 = { z := decide (v.toNat = 1), n := true, h := decide (v.toNat % 16 = 0), c := f.c } := by
  have hz : (v.toNat + 255) % 256 = 0 ↔ v.toNat = 1 := by omega
  simp only [dec8, beq_eq_decide_toNat, toNat_sub_one, toNat_and_lowNibble, BitVec.toNat_ofNat, Nat.zero_mod, hz]

end Sys2Proof.Machine

open Sys2Proof Sys2Proof.Machine

/-- Settles O20: each flag by its own lemma; the results narrow the exact sum and difference. -/
theorem addAndSubHelpersFollowTheExactSum : Obligations.AddAndSubHelpersFollowTheExactSum := by
  intro a v cin
  exact ⟨add8_result_toNat a v cin, add8_z_iff a v cin, rfl, add8_h_iff a v cin, add8_c_iff a v cin,
    sub8_result_toNat a v cin, sub8_z_iff a v cin, rfl, sub8_h_iff a v cin, sub8_c_iff a v cin⟩

/-- Settles O21: the flags by number; a step up and a step down cancel. -/
theorem logicAndStepHelpers : Obligations.LogicAndStepHelpers := by
  intro a v f
  exact ⟨rfl, by rw [and8, beq_eq_decide], rfl, xor8_flags a v, rfl, or8_flags a v, toNat_add_one v, inc8_flags v f,
    toNat_sub_one v, dec8_flags v f, BitVec.add_sub_cancel v 1, BitVec.sub_add_cancel v 1⟩

end

section
/-! The 8-bit arithmetic and logic instructions: the bytes and the exact next state (R147 to R174). -/

namespace Sys2Proof

/-! ## Encodings, by the ALU operation and the register -/

theorem encode_aluReg (op : AluOp) (r : Reg8) : encode (.ofForm (.aluReg op r)) = [0b10#2 ++ op.code ++ r.code] := by
  cases op <;> cases r <;> rfl

theorem encode_aluHL (op : AluOp) : encode (.ofForm (.aluHL op)) = [0b10#2 ++ op.code ++ 0b110#3] := by
  cases op <;> rfl

theorem encode_aluImm (op : AluOp) (d8 : Byte) :
    encode (.ofForm (.aluImm op d8)) = [0b11#2 ++ op.code ++ 0b110#3, d8] := by
  cases op <;> rfl

theorem encode_incReg (r : Reg8) : encode (.ofForm (.incReg r)) = [0b00#2 ++ r.code ++ 0b100#3] := by
  cases r <;> rfl

theorem encode_decReg (r : Reg8) : encode (.ofForm (.decReg r)) = [0b00#2 ++ r.code ++ 0b101#3] := by
  cases r <;> rfl

end Sys2Proof

namespace Sys2Proof.Machine

/-! ## Next states, by the ALU operation -/

theorem exec_aluReg (op : AluOp) (r : Reg8) (s : State) :
    exec (.ofForm (.aluReg op r)) s = .next ((s.withA (alu op s.regs.a (s.regs.get r) s.flags.c)).counted 4) :=
  exec_ofForm (.aluReg op r) s

theorem exec_aluImm (op : AluOp) (d8 : Byte) (s : State) :
    exec (.ofForm (.aluImm op d8)) s = .next ((s.withA (alu op s.regs.a d8 s.flags.c)).counted 8) :=
  exec_ofForm (.aluImm op d8) s

/-- The read of the operand leaves the registers, so the others are those before it. -/
theorem exec_aluHL (op : AluOp) (s : State) :
    exec (.ofForm (.aluHL op)) s =
      .next { s.afterRead s.hl with
        regs := { s.regs with a := (alu op s.regs.a (s.readByte s.hl) s.flags.c).1 },
        flags := (alu op s.regs.a (s.readByte s.hl) s.flags.c).2, lastCycles := some 8 } := by
  rw [exec_ofForm, Form.after, State.withA, State.afterRead_regs]
  rfl

/-- A result equal to A changes the flags alone. -/
theorem State.withA_of_eq {s : State} {x : Byte × Flags} (h : x.1 = s.regs.a) : s.withA x = { s with flags := x.2 } := by
  rw [State.withA, h]

end Sys2Proof.Machine

open Sys2Proof Sys2Proof.Machine

/-- Settles O22: ADD is `alu` with no carry in, ADC with CF; each operand form by its own lemma. -/
theorem addInstructions : Obligations.AddInstructions := by
  intro r d8 s
  refine ⟨encode_aluReg .ADD r, exec_aluReg .ADD r s, encode_aluHL .ADD, exec_aluHL .ADD s, encode_aluImm .ADD d8,
    exec_aluImm .ADD d8 s, ?adc⟩
  exact ⟨encode_aluReg .ADC r, exec_aluReg .ADC r s, encode_aluHL .ADC, exec_aluHL .ADC s, encode_aluImm .ADC d8,
    exec_aluImm .ADC d8 s⟩

/-- Settles O23: SUB is `alu` with no borrow in, SBC with CF; each operand form by its own lemma. -/
theorem subInstructions : Obligations.SubInstructions := by
  intro r d8 s
  refine ⟨encode_aluReg .SUB r, exec_aluReg .SUB r s, encode_aluHL .SUB, exec_aluHL .SUB s, encode_aluImm .SUB d8,
    exec_aluImm .SUB d8 s, ?sbc⟩
  exact ⟨encode_aluReg .SBC r, exec_aluReg .SBC r s, encode_aluHL .SBC, exec_aluHL .SBC s, encode_aluImm .SBC d8,
    exec_aluImm .SBC d8 s⟩

/-- Settles O24: `alu` of the three operations, in each operand form. -/
theorem logicInstructions : Obligations.LogicInstructions := by
  intro r d8 s
  refine ⟨encode_aluReg .AND r, exec_aluReg .AND r s, encode_aluHL .AND, exec_aluHL .AND s, encode_aluImm .AND d8,
    exec_aluImm .AND d8 s, ?xorOr⟩
  refine ⟨encode_aluReg .XOR r, exec_aluReg .XOR r s, encode_aluHL .XOR, exec_aluHL .XOR s, encode_aluImm .XOR d8,
    exec_aluImm .XOR d8 s, ?or⟩
  exact ⟨encode_aluReg .OR r, exec_aluReg .OR r s, encode_aluHL .OR, exec_aluHL .OR s, encode_aluImm .OR d8,
    exec_aluImm .OR d8 s⟩

/-- Settles O25: CP's result is A itself, which the read of the operand leaves. -/
theorem compareInstructions : Obligations.CompareInstructions := by
  intro r d8 s
  refine ⟨encode_aluReg .CP r, exec_aluReg .CP r s, encode_aluHL .CP, ?hl, encode_aluImm .CP d8, exec_aluImm .CP d8 s⟩
  have hkeep : s.regs.a = (s.afterRead s.hl).regs.a := by rw [State.afterRead_regs]
  rw [exec_ofForm, Form.after, alu, State.withA_of_eq hkeep]
  rfl

/-- Settles O26: `Form.after` of each form; the flags come from the byte read. -/
theorem incrementAndDecrementInstructions : Obligations.IncrementAndDecrementInstructions := by
  intro r s
  exact ⟨encode_incReg r, exec_ofForm (.incReg r) s, encode_decReg r, exec_ofForm (.decReg r) s, rfl,
    exec_ofForm .incHL s, rfl, exec_ofForm .decHL s⟩

end

section
/-! The 16-bit arithmetic helpers as exact sums (R180, R184). -/

namespace Sys2Proof.Machine

/-! ## Words as numbers -/

/-- A mask of the `n` low bits keeps a word modulo `2 ^ n`. -/
theorem toNat_and_lowBits {m : Word} {n : Nat} (hm : m.toNat = 2 ^ n - 1) (v : Word) :
    (v &&& m).toNat = v.toNat % 2 ^ n := by
  rw [BitVec.toNat_and, hm, Nat.and_two_pow_sub_one_eq_mod]

/-- A sign-extended byte stands for its signed displacement. -/
theorem toNat_add_sext16 (v : Word) (e : Byte) :
    ((v + sext16 e).toNat : Int) = ((v.toNat : Int) + e.toInt) % 65536 := by
  have hext : ((sext16 e).toNat : Int) = e.toInt % 65536 := by
    rw [sext16, BitVec.signExtend, BitVec.toNat_ofInt]
    exact Int.toNat_of_nonneg (Int.emod_nonneg _ (by decide))
  calc ((v + sext16 e).toNat : Int)
      = ((v.toNat : Int) + (sext16 e).toNat) % 65536 := by rw [BitVec.toNat_add]; rfl
    _ = ((v.toNat : Int) + e.toInt) % 65536 := by rw [hext, Int.add_emod_emod]

/-! ## Add16 (R180) -/

/-- H is the carry out of the low twelve bits. -/
theorem add16_h_iff (a b : Word) (f : Flags) :
    (add16 a b f).2.h = true ↔ a.toNat % 4096 + b.toNat % 4096 > 4095 := by
  have hmask (v : Word) : (v &&& 0x0FFF#16).toNat = v.toNat % 4096 := toNat_and_lowBits (n := 12) rfl v
  simp only [add16, hmask, decide_eq_true_eq]

/-- C is the carry out of the whole sum. -/
theorem add16_c_iff (a b : Word) (f : Flags) : (add16 a b f).2.c = true ↔ a.toNat + b.toNat > 65535 :=
  decide_eq_true_iff

/-! ## AddSPe8 (R184) -/

/-- H is the carry out of the low nibbles of SP and `e`. -/
theorem addSPe8_h_iff (sp : Word) (e : Byte) :
    (addSPe8 sp e).2.h = true ↔ sp.toNat % 16 + e.toNat % 16 > 15 := by
  have hmask : (sp &&& 0x0F#16).toNat = sp.toNat % 16 := toNat_and_lowBits (n := 4) rfl sp
  simp only [addSPe8, hmask, toNat_and_lowNibble, decide_eq_true_eq]

/-- C is the carry out of SP's low byte, with `e` unsigned. -/
theorem addSPe8_c_iff (sp : Word) (e : Byte) : (addSPe8 sp e).2.c = true ↔ sp.toNat % 256 + e.toNat > 255 := by
  have hmask : (sp &&& 0xFF#16).toNat = sp.toNat % 256 := toNat_and_lowBits (n := 8) rfl sp
  simp only [addSPe8, hmask, decide_eq_true_eq]

end Sys2Proof.Machine

open Sys2Proof Sys2Proof.Machine

/-- Settles O27: the results are word sums, the displacement sign-extended; each carry by its own lemma. -/
theorem sixteenBitArithmeticHelpers : Obligations.SixteenBitArithmeticHelpers := by
  intro a b sp e f
  exact ⟨BitVec.toNat_ofNat _ 16, rfl, rfl, add16_h_iff a b f, add16_c_iff a b f, toNat_add_sext16 sp e, rfl, rfl,
    addSPe8_h_iff sp e, addSPe8_c_iff sp e⟩

end

section
/-! The 16-bit arithmetic instructions: the bytes and the exact next state (R181 to R186). -/

namespace Sys2Proof

theorem encode_addHL (p : Reg16) : encode (.ofForm (.addHL p)) = [0b00#2 ++ p.code ++ 0b1001#4] := by
  cases p <;> rfl

theorem encode_incPair (p : Reg16) : encode (.ofForm (.incPair p)) = [0b00#2 ++ p.code ++ 0b0011#4] := by
  cases p <;> rfl

theorem encode_decPair (p : Reg16) : encode (.ofForm (.decPair p)) = [0b00#2 ++ p.code ++ 0b1011#4] := by
  cases p <;> rfl

end Sys2Proof

open Sys2Proof Sys2Proof.Machine

/-- Settles O28: `Form.after` of each form, whose `setHL` is `setPair .HL`; the rows by their pairs. -/
theorem sixteenBitArithmeticInstructions : Obligations.SixteenBitArithmeticInstructions := by
  intro p e8 s
  exact ⟨encode_addHL p, exec_ofForm (.addHL p) s, encode_incPair p, exec_ofForm (.incPair p) s, encode_decPair p,
    exec_ofForm (.decPair p) s, rfl, exec_ofForm (.addSP e8) s, rfl, exec_ofForm (.ldHLSP e8) s⟩

end

section
/-! The rotates, shifts and bit operations as layouts of bits (R190 to R215). -/

namespace Sys2Proof.Machine

/-! ## A shift by one place as the bit that enters beside the seven that stay -/

theorem extractLsb'_one_eq_ofBool (v : Byte) (i : Nat) : v.extractLsb' i 1 = BitVec.ofBool (v.getLsbD i) := by
  apply BitVec.eq_of_getLsbD_eq
  intro j hj
  obtain rfl : j = 0 := by omega
  simp

theorem bitByte_eq_append (b : Bool) : bitByte b = 0#7 ++ BitVec.ofBool b := by cases b <;> rfl

theorem bitByte_shiftLeft_seven (b : Bool) : bitByte b <<< 7 = BitVec.ofBool b ++ 0#7 := by cases b <;> rfl

/-- Left: the entering bit is the lowest. -/
theorem shiftLeft_one_or_bitByte (v : Byte) (b : Bool) :
    v <<< 1 ||| bitByte b = v.extractLsb' 0 7 ++ BitVec.ofBool b := by
  have hshift : v <<< 1 = v.extractLsb' 0 7 ++ 0#1 := BitVec.shiftLeft_eq_concat_of_lt (by decide)
  rw [hshift, bitByte_eq_append, BitVec.or_append, BitVec.or_zero, BitVec.zero_or]

/-- Right: the entering bit is the highest. -/
theorem ushiftRight_one_or_bitByte (v : Byte) (b : Bool) :
    v >>> 1 ||| bitByte b <<< 7 = BitVec.ofBool b ++ v.extractLsb' 1 7 := by
  have hshift : v >>> 1 = 0#1 ++ v.extractLsb' 1 7 := BitVec.ushiftRight_eq_extractLsb'_of_lt (by decide)
  rw [hshift, bitByte_shiftLeft_seven, BitVec.or_append, BitVec.zero_or, BitVec.or_zero]

/-- The bit that SRA keeps, as an entering bit (R204). -/
theorem and_topBit (v : Byte) : v &&& 0x80#8 = bitByte (v.getLsbD 7) <<< 7 := by
  calc v &&& 0x80#8 = if v.getLsbD 7 then 0x80#8 else 0#8 := BitVec.and_twoPow v 7
    _ = bitByte (v.getLsbD 7) <<< 7 := by cases v.getLsbD 7 <;> rfl

/-- Each nibble moves to the other's place (R206). -/
theorem nibbles_exchanged (v : Byte) :
    (v &&& 0x0F#8) <<< 4 ||| v >>> 4 = v.extractLsb' 0 4 ++ v.extractLsb' 4 4 := by
  have hlow : (v &&& 0x0F#8).extractLsb' 0 4 = v.extractLsb' 0 4 := by
    rw [BitVec.extractLsb'_and]
    exact BitVec.and_allOnes
  have hleft : (v &&& 0x0F#8) <<< 4 = (v &&& 0x0F#8).extractLsb' 0 4 ++ 0#4 :=
    BitVec.shiftLeft_eq_concat_of_lt (by decide)
  have hright : v >>> 4 = 0#4 ++ v.extractLsb' 4 4 := BitVec.ushiftRight_eq_extractLsb'_of_lt (by decide)
  rw [hleft, hright, BitVec.or_append, hlow, BitVec.or_zero, BitVec.zero_or]

/-! ## The eight operations -/

/-- Each operation's bit arithmetic is its layout of bits: a shift lets in the bit that the operation names, SLA and SRL
a zero. -/
theorem rotate_eq_rotatedBits (op : RotOp) (v : Byte) (c : Bool) : rotate op v c = rotatedBits op v c := by
  have hleft (b : Bool) := shiftLeft_one_or_bitByte v b
  have hright (b : Bool) := ushiftRight_one_or_bitByte v b
  cases op with
  | RLC => rw [rotate, hleft, rotatedBits, extractLsb'_one_eq_ofBool]
  | RRC => rw [rotate, hright, rotatedBits, extractLsb'_one_eq_ofBool]
  | RL => rw [rotate, hleft, rotatedBits]
  | RR => rw [rotate, hright, rotatedBits]
  | SLA => exact congrArg (·, v.getLsbD 7) (BitVec.or_zero.symm.trans (hleft false))
  | SRA => rw [rotate, and_topBit, hright, rotatedBits, extractLsb'_one_eq_ofBool]
  | SWAP => rw [rotate, nibbles_exchanged, rotatedBits]
  | SRL => exact congrArg (·, v.getLsbD 0) (BitVec.or_zero.symm.trans (hright false))

theorem rotateFlags_eq (op : RotOp) (v : Byte) (f : Flags) :
    rotateFlags op v f =
      ((rotatedBits op v f.c).1,
        { z := decide ((rotatedBits op v f.c).1 = 0#8), n := false, h := false, c := (rotatedBits op v f.c).2 }) := by
  simp only [rotateFlags, rotate_eq_rotatedBits, beq_eq_decide]

theorem rotateAccFlags_eq (op : RotOp) (v : Byte) (f : Flags) :
    rotateAccFlags op v f =
      ((rotatedBits op v f.c).1, { z := false, n := false, h := false, c := (rotatedBits op v f.c).2 }) := by
  simp only [rotateAccFlags, rotate_eq_rotatedBits]

/-! ## RES and SET, bit by bit -/

/-- The mask of RES and SET has bit `b` alone. -/
theorem getLsbD_bitMask (b : Idx3) (k : Nat) : (1#8 <<< b.toNat).getLsbD k = (k == b.toNat) := by
  have hlt : b.toNat < 8 := by cases b <;> decide
  rw [← BitVec.twoPow_eq, BitVec.getLsbD_twoPow, decide_eq_true hlt, Bool.true_and, beq_eq_decide]
  exact decide_eq_decide.mpr eq_comm

theorem getLsbD_setBit (b : Idx3) (v : Byte) (k : Nat) : (setBit b v).getLsbD k = (v.getLsbD k || k == b.toNat) := by
  rw [setBit, BitVec.getLsbD_or, getLsbD_bitMask]

theorem getLsbD_resetBit (b : Idx3) (v : Byte) (k : Nat) :
    (resetBit b v).getLsbD k = (v.getLsbD k && k != b.toNat) := by
  rw [resetBit, BitVec.getLsbD_and, BitVec.getLsbD_not, getLsbD_bitMask]
  by_cases hk : k < 8
  · rw [decide_eq_true hk, Bool.true_and, bne]
  · rw [BitVec.getLsbD_of_ge v k (by omega), Bool.false_and, Bool.false_and]

end Sys2Proof.Machine

end

section
/-! The rotate, shift and bit instructions: the bytes and the exact next state (R190 to R215). -/

namespace Sys2Proof

/-! ## Encodings: 0xCB, then the class, the operation or bit, and the operand -/

theorem encode_rotReg (op : RotOp) (r : Reg8) :
    encode (.ofForm (.rotReg op r)) = [0xCB#8, 0b00#2 ++ op.code ++ r.code] := by
  cases op <;> cases r <;> rfl

theorem encode_rotHL (op : RotOp) : encode (.ofForm (.rotHL op)) = [0xCB#8, 0b00#2 ++ op.code ++ 0b110#3] := by
  cases op <;> rfl

theorem encode_bitReg (b : Idx3) (r : Reg8) :
    encode (.ofForm (.bitReg b r)) = [0xCB#8, 0b01#2 ++ b.code ++ r.code] := by
  cases b <;> cases r <;> rfl

theorem encode_bitHL (b : Idx3) : encode (.ofForm (.bitHL b)) = [0xCB#8, 0b01#2 ++ b.code ++ 0b110#3] := by
  cases b <;> rfl

theorem encode_resReg (b : Idx3) (r : Reg8) :
    encode (.ofForm (.resReg b r)) = [0xCB#8, 0b10#2 ++ b.code ++ r.code] := by
  cases b <;> cases r <;> rfl

theorem encode_resHL (b : Idx3) : encode (.ofForm (.resHL b)) = [0xCB#8, 0b10#2 ++ b.code ++ 0b110#3] := by
  cases b <;> rfl

theorem encode_setReg (b : Idx3) (r : Reg8) :
    encode (.ofForm (.setReg b r)) = [0xCB#8, 0b11#2 ++ b.code ++ r.code] := by
  cases b <;> cases r <;> rfl

theorem encode_setHL (b : Idx3) : encode (.ofForm (.setHL b)) = [0xCB#8, 0b11#2 ++ b.code ++ 0b110#3] := by
  cases b <;> rfl

end Sys2Proof

namespace Sys2Proof.Machine

/-! ## Next states -/

/-- A form that rotates A: Z is cleared whatever the result (R190 to R193). -/
theorem exec_rotateAcc {f : Form} {s : State} (op : RotOp)
    (h : f.after s = (s.withA (rotateAccFlags op s.regs.a s.flags)).counted 4) :
    exec (.ofForm f) s =
      .next { s with
        regs := { s.regs with a := (rotatedBits op s.regs.a s.flags.c).1 },
        flags := { z := false, n := false, h := false, c := (rotatedBits op s.regs.a s.flags.c).2 },
        lastCycles := some 4 } := by
  rw [exec_ofForm, h, rotateAccFlags_eq]
  rfl

theorem exec_rotReg (op : RotOp) (r : Reg8) (s : State) :
    exec (.ofForm (.rotReg op r)) s =
      .next { s with
        regs := s.regs.set r (rotatedBits op (s.regs.get r) s.flags.c).1,
        flags :=
          { z := decide ((rotatedBits op (s.regs.get r) s.flags.c).1 = 0#8), n := false, h := false,
            c := (rotatedBits op (s.regs.get r) s.flags.c).2 },
        lastCycles := some 8 } := by
  rw [exec_ofForm, Form.after, State.regUpdated, rotateFlags_eq]
  rfl

theorem exec_rotHL (op : RotOp) (s : State) :
    exec (.ofForm (.rotHL op)) s =
      .next { (s.afterRead s.hl).writeByte s.hl (rotatedBits op (s.readByte s.hl) s.flags.c).1 with
        flags :=
          { z := decide ((rotatedBits op (s.readByte s.hl) s.flags.c).1 = 0#8), n := false, h := false,
            c := (rotatedBits op (s.readByte s.hl) s.flags.c).2 },
        lastCycles := some 16 } := by
  rw [exec_ofForm, Form.after, State.memUpdated, rotateFlags_eq]
  rfl

/-- An update of the byte at HL that keeps the flags is the read and the write alone. -/
theorem State.memUpdated_of_flags_kept (s : State) (g : Byte → Byte) :
    (s.memUpdated fun v f => (g v, f)) = (s.afterRead s.hl).writeByte s.hl (g (s.readByte s.hl)) := by
  have hkeep : s.flags = ((s.afterRead s.hl).writeByte s.hl (g (s.readByte s.hl))).flags := by
    rw [State.writeByte_flags, State.afterRead_flags]
  rw [State.memUpdated]
  dsimp only
  rw [hkeep]

theorem exec_resHL (b : Idx3) (s : State) :
    exec (.ofForm (.resHL b)) s =
      .next { (s.afterRead s.hl).writeByte s.hl (resetBit b (s.readByte s.hl)) with lastCycles := some 16 } := by
  rw [exec_ofForm, Form.after, State.memUpdated_of_flags_kept, State.counted]

theorem exec_setHL (b : Idx3) (s : State) :
    exec (.ofForm (.setHL b)) s =
      .next { (s.afterRead s.hl).writeByte s.hl (setBit b (s.readByte s.hl)) with lastCycles := some 16 } := by
  rw [exec_ofForm, Form.after, State.memUpdated_of_flags_kept, State.counted]

end Sys2Proof.Machine

open Sys2Proof Sys2Proof.Machine

/-- Settles O29: the four rotates of A with their layouts of bits, which `rotatedBits` names. -/
theorem accumulatorRotates : Obligations.AccumulatorRotates := by
  intro s
  exact ⟨rfl, exec_rotateAcc .RLC rfl, rfl, exec_rotateAcc .RRC rfl, rfl, exec_rotateAcc .RL rfl, rfl,
    exec_rotateAcc .RR rfl⟩

/-- Settles O30: each operation's result is its layout of bits, on a register and on (HL). -/
theorem extendedRotates : Obligations.ExtendedRotates := by
  intro op r s _
  exact ⟨encode_rotReg op r, exec_rotReg op r s, encode_rotHL op, exec_rotHL op s⟩

/-- Settles O31, as O30: the layout lemma covers all eight operations. -/
theorem extendedShiftsAndSwap : Obligations.ExtendedShiftsAndSwap := by
  intro op r s _
  exact ⟨encode_rotReg op r, exec_rotReg op r s, encode_rotHL op, exec_rotHL op s⟩

/-- Settles O32: RES and SET bit by bit; BIT leaves its operand, and RES and SET leave the flags. -/
theorem bitTestResetAndSet : Obligations.BitTestResetAndSet := by
  intro b r s
  refine ⟨getLsbD_resetBit b, getLsbD_setBit b, encode_bitReg b r, exec_ofForm (.bitReg b r) s, encode_bitHL b,
    exec_ofForm (.bitHL b) s, ?resAndSet⟩
  exact ⟨encode_resReg b r, exec_ofForm (.resReg b r) s, encode_resHL b, exec_resHL b s,
    encode_setReg b r, exec_ofForm (.setReg b r) s, encode_setHL b, exec_setHL b s⟩

end

section
/-! Jumps, calls, returns and restarts: the bytes and the exact next state, taken and not taken (R220 to R231). -/

namespace Sys2Proof

/-! ## Encodings: the condition's code in bits 4:3 of the opcode, the target of RST in bits 5:3 -/

theorem encode_jpCond (cc : Cond) (a16 : Word) :
    encode (.ofForm (.jpCond cc a16)) = [0b110#3 ++ cc.code ++ 0b010#3, lowByte a16, highByte a16] := by
  cases cc <;> rfl

theorem encode_jrCond (cc : Cond) (e8 : Byte) :
    encode (.ofForm (.jrCond cc e8)) = [0b001#3 ++ cc.code ++ 0b000#3, e8] := by
  cases cc <;> rfl

theorem encode_callCond (cc : Cond) (a16 : Word) :
    encode (.ofForm (.callCond cc a16)) = [0b110#3 ++ cc.code ++ 0b100#3, lowByte a16, highByte a16] := by
  cases cc <;> rfl

theorem encode_retCond (cc : Cond) : encode (.ofForm (.retCond cc)) = [0b110#3 ++ cc.code ++ 0b000#3] := by
  cases cc <;> rfl

theorem encode_rst (y : Idx3) : encode (.ofForm (.rst y)) = [0b11#2 ++ y.code ++ 0b111#3] := by
  cases y <;> rfl

end Sys2Proof

namespace Sys2Proof.Machine

/-! ## Conditions -/

theorem Flags.holds_NZ (f : Flags) : f.holds .NZ = true ↔ f.z = false := iff_of_eq (Bool.not_eq_true' f.z)

theorem Flags.holds_Z (f : Flags) : f.holds .Z = true ↔ f.z = true := Iff.rfl

theorem Flags.holds_NC (f : Flags) : f.holds .NC = true ↔ f.c = false := iff_of_eq (Bool.not_eq_true' f.c)

theorem Flags.holds_C (f : Flags) : f.holds .C = true ↔ f.c = true := Iff.rfl

/-! ## Next states -/

/-- A conditional form answers the next state of the side that its condition picks. -/
theorem exec_conditional {f : Form} {s taken notTaken : State} {cc : Cond}
    (h : f.after s = if s.flags.holds cc then taken else notTaken) :
    exec (.ofForm f) s = if s.flags.holds cc then .next taken else .next notTaken := by
  rw [exec_ofForm, h, apply_ite Host.Outcome.next]

/-- The target of RST by the product as the opcode map writes it (R231). -/
theorem exec_rst (y : Idx3) (s : State) :
    exec (.ofForm (.rst y)) s = .next ((s.called (BitVec.ofNat 16 (y.toNat * 8))).counted 16) := by
  rw [exec_ofForm, Form.after, Nat.mul_comm]

end Sys2Proof.Machine

open Sys2Proof Sys2Proof.Machine

/-- Settles O33: `Form.after` of each form; a conditional form answers one of two next states. -/
theorem jumpInstructions : Obligations.JumpInstructions := by
  intro cc a16 e8 s
  refine ⟨s.flags.holds_NZ, s.flags.holds_Z, s.flags.holds_NC, s.flags.holds_C, rfl, exec_ofForm (.jp a16) s,
    encode_jpCond cc a16, exec_conditional rfl, rfl, exec_ofForm .jpHL s, ?relative⟩
  exact ⟨rfl, exec_ofForm (.jr e8) s, encode_jrCond cc e8, exec_conditional rfl⟩

/-- Settles O34: the word pushed is two byte writes and the word popped two byte reads, the low byte first. -/
theorem callReturnAndRestart : Obligations.CallReturnAndRestart := by
  intro cc a16 y s
  refine ⟨rfl, exec_ofForm (.call a16) s, encode_callCond cc a16, exec_conditional rfl, ?returnsAndRestart⟩
  exact ⟨rfl, exec_ofForm .ret s, encode_retCond cc, exec_conditional rfl, rfl, exec_ofForm .reti s,
    encode_rst y, exec_rst y s⟩

end

section
/-! The miscellaneous instructions (R250 to R254): NOP, CPL, SCF and CCF, and DAA with its two corrections. -/

namespace Sys2Proof.Machine

/-! ## DAA (R251) -/

/-- Whether DAA corrects by 0x60: CF, or after an addition A above 0x99. -/
def daaHigh (a : Byte) (f : Flags) : Bool := f.c || (!f.n && decide (a.toNat > 0x99))

/-- Whether DAA corrects by 0x06: HF, or after an addition a low nibble of A above 9. -/
def daaLow (a : Byte) (f : Flags) : Bool := f.h || (!f.n && decide (a.toNat % 16 > 9))

theorem daaHigh_iff (a : Byte) (f : Flags) :
    daaHigh a f = true ↔ f.c = true ∨ (f.n = false ∧ a.toNat > 0x99) := by simp [daaHigh]

theorem daaLow_iff (a : Byte) (f : Flags) :
    daaLow a f = true ↔ f.h = true ∨ (f.n = false ∧ a.toNat % 16 > 9) := by simp [daaLow]

/-- One correction upward, as numbers. -/
theorem toNat_add_if (v n : Byte) (b : Bool) :
    (if b then v + n else v).toNat = (v.toNat + if b then n.toNat else 0) % 256 := by
  cases b
  case false => exact (Nat.mod_eq_of_lt v.isLt).symm
  case true => exact BitVec.toNat_add v n

/-- One correction downward, as numbers. -/
theorem toNat_sub_if (v n : Byte) (b : Bool) :
    ((if b then v - n else v).toNat : Int) = ((v.toNat : Int) - if b then (n.toNat : Int) else 0) % 256 := by
  cases b
  case false =>
    simp only [Bool.false_eq_true, if_false, Int.sub_zero]
    omega
  case true =>
    simp only [if_true, BitVec.toNat_sub]
    omega

/-- The correction by 0x60 leaves the low nibble, so DAA's low-nibble test, made after it, is a test of A. -/
theorem toNat_lowNibble_add_0x60 (a : Byte) (b : Bool) :
    ((if b then a + 0x60#8 else a) &&& 0x0F#8).toNat = a.toNat % 16 := by
  rw [toNat_and_lowNibble]
  cases b
  case false => rfl
  case true =>
    rw [if_pos rfl, BitVec.toNat_add, BitVec.toNat_ofNat]
    omega

/-- After an addition DAA adds its corrections. -/
theorem daa8_toNat_of_add (a : Byte) {f : Flags} (hn : f.n = false) :
    (daa8 a f).1.toNat =
      (a.toNat + (if daaHigh a f then 0x60 else 0) + (if daaLow a f then 0x06 else 0)) % 256 := by
  have hresult : (daa8 a f).1 =
      (if daaLow a f then (if daaHigh a f then a + 0x60#8 else a) + 0x06#8
        else if daaHigh a f then a + 0x60#8 else a) := by
    simp only [daa8, hn, Bool.false_eq_true, if_false, toNat_lowNibble_add_0x60, daaHigh, daaLow, Bool.not_false,
      Bool.true_and]
  rw [hresult, toNat_add_if, toNat_add_if, Nat.mod_add_mod]
  rfl

/-- After a subtraction DAA takes its corrections off. -/
theorem daa8_toNat_of_sub (a : Byte) {f : Flags} (hn : f.n = true) :
    ((daa8 a f).1.toNat : Int) =
      ((a.toNat : Int) - (if daaHigh a f then 0x60 else 0) - (if daaLow a f then 0x06 else 0)) % 256 := by
  have hresult : (daa8 a f).1 =
      (if daaLow a f then (if daaHigh a f then a - 0x60#8 else a) - 0x06#8
        else if daaHigh a f then a - 0x60#8 else a) := by
    simp only [daa8, hn, if_true, daaHigh, daaLow, Bool.not_true, Bool.false_and, Bool.or_false]
  rw [hresult, toNat_sub_if, toNat_sub_if, Int.emod_sub_emod]
  rfl

theorem daa8_flags (a : Byte) (f : Flags) :
    (daa8 a f).2 = { z := decide ((daa8 a f).1 = 0#8), n := f.n, h := false, c := daaHigh a f } := by
  rw [← beq_eq_decide]
  rfl

theorem exec_daa (s : State) :
    exec (.ofForm .daa) s =
      .next { s with
        regs := { s.regs with a := (daa8 s.regs.a s.flags).1 },
        flags :=
          { z := decide ((daa8 s.regs.a s.flags).1 = 0#8), n := s.flags.n, h := false,
            c := daaHigh s.regs.a s.flags },
        lastCycles := some 4 } := by
  rw [exec_ofForm, Form.after, State.withA, daa8_flags]
  rfl

end Sys2Proof.Machine

open Sys2Proof Sys2Proof.Machine

/-- Settles O35: `Form.after` of each form. -/
theorem nopAndFlagInstructions : Obligations.NopAndFlagInstructions := by
  intro s
  exact ⟨rfl, rfl, rfl, rfl, exec_ofForm .nop s, exec_ofForm .cpl s, exec_ofForm .scf s, exec_ofForm .ccf s⟩

/-- Settles O36: the premises name DAA's two corrections, and its result is the only byte of that number. -/
theorem decimalAdjust : Obligations.DecimalAdjust := by
  intro s high low r hhigh hlow ⟨hadd, hsub⟩
  obtain rfl : high = daaHigh s.regs.a s.flags := Bool.eq_iff_iff.mpr (hhigh.trans (daaHigh_iff ..).symm)
  obtain rfl : low = daaLow s.regs.a s.flags := Bool.eq_iff_iff.mpr (hlow.trans (daaLow_iff ..).symm)
  have hr : r = (daa8 s.regs.a s.flags).1 := by
    apply BitVec.eq_of_toNat_eq
    cases hn : s.flags.n
    case false => rw [hadd hn, daa8_toNat_of_add _ hn]
    case true => exact Int.ofNat.inj ((hsub hn).trans (daa8_toNat_of_sub _ hn).symm)
  subst hr
  exact ⟨rfl, exec_daa s⟩

end

section
/-! The cycle count every instruction returns (R92 to R94, R360). -/

namespace Sys2Proof

/-- A row that is not well-formed is one of the illegal bytes. -/
theorem Instr.form_illegal_of_not_wf {i : Instr} (h : i.wf = false) : ∃ k, i.form = .illegal k := by
  cases hf : i.form
  case illegal k => exact ⟨k, rfl⟩
  all_goals
    rw [Instr.wf, hf] at h
    exact absurd h.symm Bool.false_ne_true

/-- Each form returns the table's count; a conditional transfer, the one of the side its condition picks. -/
theorem Form.after_cycles (f : Form) (s : Machine.State) : (f.after s).lastCycles = f.cycles s.flags := by
  cases f
  case jpCond | jrCond | callCond | retCond => dsimp only [Form.after, Form.cycles]; split <;> rfl
  all_goals rfl

end Sys2Proof

open Sys2Proof Sys2Proof.Machine

/-- Settles O43: `exec` answers `Form.after`, whose count is the table's and whose illegal byte records the fault. -/
theorem everyInstructionCompletesWithItsCycles : Obligations.EveryInstructionCompletesWithItsCycles := by
  intro i s
  refine ⟨i.form.after s, exec_eq i s, i.form.after_cycles s, fun hwf => ?_⟩
  obtain ⟨k, hk⟩ := Instr.form_illegal_of_not_wf hwf
  rw [hk]
  exact ⟨rfl, rfl⟩

end

section
/-! Interrupt dispatch, the environment's turn, the power states and the illegal bytes (R301, R308 to R316). -/

namespace Sys2Proof

/-- An illegal byte decodes to the row of its form, whatever follows it. -/
theorem decodeBytes_illegalByte (k : IllegalByte) (b1 b2 : Byte) : (decodeBytes k.byte b1 b2).form = .illegal k := by
  cases k <;> rfl

end Sys2Proof

namespace Sys2Proof.Machine

/-! ## The pending sources -/

/-- A source is pending exactly when it is one of the five, enabled and requested (R307). -/
theorem State.getLsbD_pending (s : State) (j : Nat) :
    s.pending.getLsbD j = ((s.ie &&& s.ifl).getLsbD j && decide (j < 5)) := by
  have hmask : (0x1F#8).getLsbD j = decide (j < 5) := by
    rw [show 0x1F#8 = (BitVec.allOnes 5).setWidth 8 from rfl, BitVec.getLsbD_setWidth, BitVec.getLsbD_allOnes]
    exact Bool.and_eq_right_iff_imp.mpr fun h => by simp at h ⊢; omega
  rw [State.pending, BitVec.getLsbD_and, hmask]

/-- The lowest set bit is the one with none below it (R309). -/
theorem lowestBit_eq {p : Byte} {k : Nat} (hk : k < 5) (hset : p.getLsbD k = true)
    (hlow : ∀ j, j < k → p.getLsbD j = false) : lowestBit p = k := by
  unfold lowestBit
  interval_cases k <;>
    simp only [hset, hlow 0, hlow 1, hlow 2, hlow 3, Nat.reduceLT, Bool.false_eq_true, if_true, if_false]

/-- The vectors lie 8 bytes apart from 0x0040 on (R304). -/
theorem vector_eq (k : Nat) : vector k = BitVec.ofNat 16 (0x0040 + 8 * k) := (BitVec.ofNat_add 0x0040 (8 * k)).symm

/-- The dispatch returns its cost. -/
@[simp] theorem State.dispatch_lastCycles (s : State) (k : Nat) : (s.dispatch k).lastCycles = some dispatchCost := rfl

/-! ## The environment's turn -/

/-- With no input waiting the step is the machine step (R314). -/
theorem step_of_silent {s : State} (hin : s.inputs = []) : step s = machineStep s := by
  rw [step, State.environment_nil hin]

section
variable {s : State} {e : EnvInput} {rest : List EnvInput} (hin : s.inputs = e :: rest)
include hin

theorem State.environment_inputs_cons : s.environment.inputs = rest := by rw [State.environment_cons hin]

/-- Only a wake ends the stop (R316). -/
theorem State.environment_stopped_cons : s.environment.stopped = (s.stopped && !e.wake) := by
  rw [State.environment_cons hin]

theorem State.environment_ie_cons : s.environment.ie = s.ie := by
  rw [State.environment_cons hin]
  exact Memory.get_set_other _ _ (by decide)

/-- In canonical memory the requested bits are added to IF (R308). -/
theorem State.environment_ifl_cons (hw : s.mem.wf = true) :
    s.environment.ifl = s.ifl ||| e.requests.setWidth 8 := by
  rw [State.environment_cons hin]
  exact Memory.get_set_same hw _ _

end

/-! ## The machine step, case by case -/

section
variable {s : State} (hfault : s.fault = none)
include hfault

/-- A stopped core does nothing (R316). -/
theorem machineStep_of_stopped (hstop : s.stopped = true) : machineStep s = .next { s with lastCycles := none } := by
  rw [machineStep_eq hfault, if_pos hstop]

variable (hstop : s.stopped = false)
include hstop

/-- A halted core with nothing pending idles (R315). -/
theorem machineStep_of_idle (hhalt : s.halted = true) (hpend : s.pending = 0#8) :
    machineStep s = .next { s.advance 4 with lastCycles := some 4 } := by
  simp [machineStep_eq hfault, hstop, hhalt, hpend, idleCost]

/-- With something pending a core dispatches or runs an instruction, halted or not (R315). -/
theorem machineStep_of_pending (hpend : s.pending ≠ 0#8) :
    machineStep s =
      if s.ime then .next ((s.awake.dispatch (lowestBit s.pending)).advance dispatchCost)
      else advanceAfter (decoderStep s.awake) := by
  simp [machineStep_eq hfault, hstop, hpend]

/-- With IME = 1 the lowest source both enabled and requested is dispatched (R309, R314). -/
theorem machineStep_of_lowest {k : Nat} (hime : s.ime = true) (hk : k < 5) (hset : (s.ie &&& s.ifl).getLsbD k = true)
    (hlow : ∀ j, j < k → (s.ie &&& s.ifl).getLsbD j = false) :
    machineStep s = .next ((s.awake.dispatch k).advance dispatchCost) := by
  have hbit : s.pending.getLsbD k = true := by simp [State.getLsbD_pending, hset, hk]
  have hpend : s.pending ≠ 0#8 := fun h0 => by simp [h0] at hbit
  have hlowest : lowestBit s.pending = k :=
    lowestBit_eq hk hbit fun j hj => by rw [State.getLsbD_pending, hlow j hj, Bool.false_and]
  rw [machineStep_of_pending hfault hstop hpend, if_pos hime, hlowest]

end

/-- The step of a running core is the decoder step and the advance (R314). -/
theorem step_eq_decoderStep_of_runs {s : State} (hr : s.runs = true) : step s = advanceAfter (decoderStep s) := by
  obtain ⟨hfault, hstop, hhalt, hdue, hin⟩ := s.runs_iff.mp hr
  have hawake : s.awake = s := by rw [State.awake, ← hhalt]
  rw [step_of_silent hin, machineStep_eq hfault, hawake]
  simp only [hstop, hhalt, hdue, Bool.false_and, Bool.false_eq_true, if_false]

/-- At an illegal byte that step gives back the state but for the fault record (R301). -/
theorem step_of_illegalByte {s : State} {k : IllegalByte} (hr : s.runs = true) (hbyte : s.readByte s.pc = k.byte) :
    step s = .next { s with fault := some { pc := s.pc, bytes := [k.byte] }, lastCycles := none } := by
  have hform : s.instrAt.form = .illegal k := by rw [State.instrAt, hbyte, decodeBytes_illegalByte]
  rw [step_eq_decoderStep_of_runs hr, decoderStep_illegal s k hform]
  rfl

/-- A fault record is the outcome of every later step (R301). -/
theorem step_of_fault {s : State} {r : FaultReport} (h : s.fault = some r) : step s = .fault (.illegalOpcode r) := by
  rw [step, machineStep, State.environment_fault, h]

/-! ## A halted core with nothing to wake it -/

/-- A run whose first step succeeds goes on from the next state. -/
theorem run_of_step {M : Host.Core} {s t : M.State} (h : M.step s = .next t) (k : Nat) :
    M.run (k + 1) s = M.run k t := by
  rw [Host.Core.run, h]

/-- What a halted core with nothing to wake it keeps: its power state, and all a program sees. -/
structure State.IdlesAs (s t : State) : Prop where
  fault : t.fault = none
  stopped : t.stopped = false
  halted : t.halted = true
  inputs : t.inputs = []
  vblankRequestsIf : t.vblankRequestsIf = false
  pending : t.pending = 0#8
  regs : t.regs = s.regs
  flags : t.flags = s.flags
  pc : t.pc = s.pc
  sp : t.sp = s.sp
  ime : t.ime = s.ime
  mem : t.mem = s.mem

/-- An idle step that cannot request an interrupt leads from an idle core to an idle core. -/
theorem State.IdlesAs.step {s t : State} (h : s.IdlesAs t) : ∃ u, Machine.step t = .next u ∧ s.IdlesAs u := by
  refine ⟨{ t.advance 4 with lastCycles := some 4 }, ?_, ?_⟩
  · rw [step_of_silent h.inputs, machineStep_of_idle h.fault h.stopped h.halted h.pending]
  · rw [State.advance_plain t 4 (.inl h.vblankRequestsIf)]
    exact { h with }

/-- So it idles for any number of steps. -/
theorem State.IdlesAs.run {s t : State} (h : s.IdlesAs t) (k : Nat) : ∃ u, core.run k t = .next u ∧ s.IdlesAs u := by
  induction k generalizing t with
  | zero => exact ⟨t, rfl, h⟩
  | succ k ih =>
    obtain ⟨u, hstep, hu⟩ := h.step
    obtain ⟨v, hrun, hv⟩ := ih hu
    exact ⟨v, (run_of_step (M := core) hstep k).trans hrun, hv⟩

end Sys2Proof.Machine

open Sys2Proof Sys2Proof.Machine

/-- Settles O46: source `k` is the lowest pending one, and the dispatch's word push is two byte writes. -/
theorem lowestPendingInterruptIsDispatched : Obligations.LowestPendingInterruptIsDispatched := by
  intro s k hfault hstop hin hime hk hie hif hlow
  have hset : (s.ie &&& s.ifl).getLsbD k = true := by
    rw [BitVec.getLsbD_and]
    exact Bool.and_eq_true_iff.mpr ⟨hie, hif⟩
  rw [step_of_silent hin, machineStep_of_lowest hfault hstop hime hk hset hlow, ← vector_eq]
  rfl

/-- Settles O47: the machine step does not look at `halted` when something is pending, and idling keeps itself up. -/
theorem haltedCoreIdlesOrWakes : Obligations.HaltedCoreIdlesOrWakes := by
  intro s hfault hstop hhalt hin
  rw [step_of_silent hin, step_of_silent (s := { s with halted := false }) hin]
  refine ⟨fun hpend => ?idle, fun hpend => ?wake, fun hpend hime => ?goOn, fun hpend hvb k => ?run⟩
  case idle => exact machineStep_of_idle hfault hstop hhalt hpend
  case wake =>
    rw [machineStep_of_pending hfault hstop hpend,
      machineStep_of_pending (s := { s with halted := false }) hfault hstop hpend]
    rfl
  case goOn =>
    rw [machineStep_of_pending hfault hstop hpend, if_neg (by simp [hime])]
    rfl
  case run =>
    have hself : s.IdlesAs s := ⟨hfault, hstop, hhalt, hin, hvb, hpend, rfl, rfl, rfl, rfl, rfl, rfl⟩
    obtain ⟨t, hrun, ht⟩ := hself.run k
    exact ⟨t, hrun, ht.halted, ht.regs, ht.flags, ht.pc, ht.sp, ht.ime, ht.mem⟩

/-- Settles O48: after the environment's turn the core is stopped exactly when no wake came. -/
theorem stoppedCoreWaitsForTheHost : Obligations.StoppedCoreWaitsForTheHost := by
  intro s rest bits hfault hstop
  refine ⟨fun hin => ?silent, fun hin => ?request, fun hin => ?wake⟩
  case silent => rw [step_of_silent hin, machineStep_of_stopped hfault hstop]
  case request =>
    have hstill : s.environment.stopped = true := by simp [State.environment_stopped_cons hin, hstop]
    rw [step, machineStep_of_stopped (s.environment_fault.trans hfault) hstill, State.environment_cons hin]
    simp [hstop]
  case wake => simp [step, State.environment_cons hin]

/-- Settles O49: the roll-back of the decoder step, and the machine step's first test. -/
theorem illegalOpcodeIsRolledBackAndFinal : Obligations.IllegalOpcodeIsRolledBackAndFinal :=
  ⟨fun _ _ => step_of_illegalByte, fun _ _ => step_of_fault⟩

/-- Settles O60: a request of an enabled source makes it the lowest pending one, as no lower source is enabled. -/
theorem theEnvironmentActsBeforeTheStep : Obligations.TheEnvironmentActsBeforeTheStep := by
  refine ⟨fun s _ => ⟨step_of_silent, fun e rest hin => by rw [step, State.environment_cons hin]⟩, ?_⟩
  intro s e rest k hlegal hfault hin hwake hime hreq hie hlow
  have hw : s.mem.wf = true := (Bool.and_eq_true_iff.mp hlegal).1
  have hk : k < 5 := BitVec.lt_of_getLsbD hreq
  have hstop : s.environment.stopped = false := by
    rw [State.environment_stopped_cons hin]
    cases hs : s.stopped
    case false => rfl
    case true => rw [hwake hs]; rfl
  have hset : (s.environment.ie &&& s.environment.ifl).getLsbD k = true := by
    have hie : s.ie.getLsbD k = true := hie
    have hk8 : k < 8 := by omega
    simp [State.environment_ie_cons hin, State.environment_ifl_cons hin hw, hie, hreq, hk8]
  have hclear : ∀ j, j < k → (s.environment.ie &&& s.environment.ifl).getLsbD j = false := fun j hj => by
    have hie : s.ie.getLsbD j = false := hlow j hj
    rw [BitVec.getLsbD_and, State.environment_ie_cons hin, hie, Bool.false_and]
  have hstep : step s = _ :=
    machineStep_of_lowest (s.environment_fault.trans hfault) hstop (s.environment_ime.trans hime) hk hset hclear
  exact ⟨_, hstep, by simp [State.awake, vector_eq, hstop, State.environment_inputs_cons hin, dispatchCost]⟩

end

section
/-! The position of the pixel-timing controller in its frame (R317 to R322). -/

namespace Sys2Proof.Machine

/-- The offset in its line at which a mode begins (R318): V-blank's lines have no other mode before it. -/
def TimingMode.start (m : TimingMode) : Nat :=
  match m with
  | .oamScan | .vBlank => 0
  | .vramRead => 80
  | .hBlank => 252

/-- How many frames have begun, the one before reset included: FrameReady comes at V-blank entry, so the drawing lines
belong to a frame that it has not yet counted. -/
def Timing.frame (t : Timing) : Nat :=
  match t.mode with
  | .vBlank => t.framesReady
  | .oamScan | .vramRead | .hBlank => t.framesReady + 1

/-- The cycles gone by, by the controller's registers: whole frames of 70224, lines of 456, the mode's place in the line
and the counter. -/
def Timing.clock (t : Timing) : Nat := 70224 * t.frame + 456 * t.scanline + t.mode.start + t.modeCycles

/-- A transition moves no time: what it takes off the counter it puts on the position. -/
theorem Timing.transition_clock {t : Timing} (h : t.inFrame) (hover : t.mode.duration ≤ t.modeCycles) :
    t.transition.clock = t.clock := by
  obtain ⟨mode, cycles, line, frames⟩ := t
  cases mode <;> simp only [Timing.inFrame] at h <;> simp only [TimingMode.duration] at hover
  case oamScan | vramRead =>
    simp only [Timing.transition, Timing.clock, Timing.frame, TimingMode.start, TimingMode.duration]
    omega
  case hBlank | vBlank =>
    dsimp only [Timing.transition]
    split
    all_goals
      rename_i hline
      simp only [vBlankLine, lastLine] at hline
      simp only [Timing.clock, Timing.frame, TimingMode.start, TimingMode.duration]
      omega

theorem Timing.settle_clock (k : Nat) {t : Timing} (h : t.inFrame) : (Timing.settle k t).clock = t.clock := by
  induction k generalizing t with
  | zero => rfl
  | succ k ih =>
    rw [Timing.settle_succ]
    split
    · rename_i hover
      rw [ih (Timing.transition_inFrame h), Timing.transition_clock h hover]
    · rfl

/-- An advance by `n` moves the clock by `n`. -/
theorem Timing.advance_clock {t : Timing} (h : t.inFrame) (n : Nat) : (t.advance n).clock = t.clock + n :=
  (Timing.settle_clock _ (t := t.add n) h).trans (Nat.add_assoc ..).symm

end Sys2Proof.Machine

open Sys2Proof Sys2Proof.Machine

/-- Settles O55: the controller is legal and its clock has moved by `n`, which leaves one position. -/
theorem positionAfterAnyNumberOfCycles : Obligations.PositionAfterAnyNumberOfCycles := by
  intro n
  have hreset : Timing.reset.inFrame := Nat.zero_lt_succ 142
  have hclock : (Timing.reset.advance n).clock = 70224 + n := Timing.advance_clock hreset n
  obtain ⟨hbelow, hframe⟩ := (Timing.legal_iff _).mp (Timing.advance_legal hreset n)
  dsimp only
  generalize Timing.reset.advance n = t at *
  obtain ⟨mode, cycles, line, frames⟩ := t
  cases mode
  all_goals
    simp only [Timing.inFrame, TimingMode.duration, Timing.clock, Timing.frame, TimingMode.start] at *
    simp only [reduceCtorEq, true_and, false_and]
    omega

/-- Settles O56: V-blank is 5016 cycles long, so two entries are a frame apart and the clock leaves room for one. -/
theorem vBlankEntryRequestsOnlyWhenConfigured : Obligations.VBlankEntryRequestsOnlyWhenConfigured := by
  intro s n hlegal
  refine ⟨fun hvb hne => ?request, fun h => ?plain, fun hn hout hentered => ?one⟩
  case request =>
    rw [State.advance_timing] at hne
    rw [State.advance_request s n hvb hne]
    rfl
  case plain =>
    rw [State.advance_timing] at h
    exact State.advance_plain s n h
  case one =>
    obtain ⟨hbelow, hframe⟩ := (Timing.legal_iff _).mp (Bool.and_eq_true_iff.mp hlegal).2
    obtain ⟨hbelow', hframe'⟩ := (Timing.legal_iff _).mp (Timing.advance_legal hframe n)
    have hclock := Timing.advance_clock hframe n
    generalize s.timing = t at *
    generalize t.advance n = u at *
    obtain ⟨mode, cycles, line, frames⟩ := t
    obtain ⟨mode', cycles', line', frames'⟩ := u
    cases hentered
    cases mode
    case vBlank => exact absurd rfl hout
    case oamScan | vramRead | hBlank =>
      simp only [Timing.inFrame, TimingMode.duration, Timing.clock, Timing.frame, TimingMode.start] at *
      omega

end

section
/-! What raises IME and the EI latch, and that no interrupt is dispatched while IME is 0 (R28, R314, R351). -/

namespace Sys2Proof

/-- An instruction begins with the byte it was decoded from. -/
theorem encode_decodeBytes_head (b0 b1 b2 : Byte) : (encode (decodeBytes b0 b1 b2)).head? = some b0 := by
  have hslot := primary_slot b0
  unfold decodeBytes
  cases h : primary b0 <;> rw [h] at hslot
  case op i => exact congrArg List.head? hslot
  case imm8 f => exact congrArg List.head? (hslot b1)
  case imm16 f => exact congrArg List.head? (hslot (wordOf b2 b1))
  case extended => rw [hslot]; exact congrArg List.head? (extended_slot b1)

namespace Machine

/-- An instruction with another first byte is not the one at PC. -/
theorem State.instrAt_ne {s : State} {i : Instr} {b : Byte} (hi : (encode i).head? = some b)
    (hb : s.readByte s.pc ≠ b) : s.instrAt ≠ i := by
  rintro rfl
  exact hb (Option.some.inj ((encode_decodeBytes_head _ _ _).symm.trans hi))

/-! ## IME through an instruction -/

/-- No form but RETI's and DI's touches IME. -/
theorem Form.after_ime {f : Form} (hreti : f ≠ .reti) (hdi : f ≠ .di) (s : State) : (f.after s).ime = s.ime := by
  cases f
  case reti => exact absurd rfl hreti
  case di => exact absurd rfl hdi
  case jpCond | jrCond | callCond | retCond =>
    dsimp only [Form.after]; split <;> simp [State.counted, State.called, State.returned]
  all_goals
    simp [Form.after, State.counted, State.called, State.returned, State.memUpdated, State.withA, State.regUpdated,
      State.raiseIllegal]

/-- With no EI pending only RETI raises IME. -/
theorem State.ran_ime_of_not_reti {s : State} (hime : s.ime = false) (he : s.eiDelay = false)
    (hreti : s.instrAt ≠ .reti) : s.ran.ime = false := by
  by_cases hdi : s.instrAt = .di
  · exact State.ran_ime_of_di hdi
  · rw [State.ran, he, Bool.false_and, if_neg Bool.false_ne_true,
      Form.after_ime (Instr.form_ne hreti) (Instr.form_ne hdi), State.atInstr_ime, hime]

/-- The latch is set only by EI. -/
theorem State.ran_eiDelay_of_not_ei {s : State} (hei : s.instrAt ≠ .ei) : s.ran.eiDelay = false := by
  rw [State.ran_eiDelay, beq_false_of_ne hei]

/-! ## The machine step with IME = 0 -/

/-- With IME = 0 nothing is dispatched: what does not idle runs an instruction (R314). -/
theorem machineStep_of_ime_false {s : State} (hfault : s.fault = none) (hstop : s.stopped = false)
    (hime : s.ime = false) (hidle : ¬(s.halted = true ∧ s.pending = 0#8)) :
    machineStep s = advanceAfter (decoderStep s.awake) := by
  have hidle : ¬((s.halted && s.pending == 0#8) = true) := by simpa using hidle
  rw [machineStep_eq hfault, if_neg (by simp [hstop]), if_neg hidle, if_neg (by simp [hime])]

/-- With IME = 0 a machine step leaves IME and the latch as they are (the stopped, the idle and the illegal case of
`machineStep_cases`, in which the dispatch is out), or as the instruction at PC leaves them. -/
theorem machineStep_ime_eiDelay {s t : State} (h : machineStep s = .next t) (hime : s.ime = false) :
    (t.ime = s.ime ∧ t.eiDelay = s.eiDelay) ∨ (t.ime = s.awake.ran.ime ∧ t.eiDelay = s.awake.ran.eiDelay) := by
  obtain ⟨-, ⟨-, rfl⟩ | ⟨-, -, -, rfl⟩ | ⟨-, hone, -⟩ | ⟨-, -, -, k, -, rfl⟩ | ⟨-, -, -, -, u, n, hu, -, rfl⟩⟩ :=
    machineStep_cases h
  · exact .inl ⟨rfl, rfl⟩
  · exact .inl ⟨s.advance_ime _, s.advance_eiDelay _⟩
  · exact absurd hone (by simp [hime])
  · exact .inl ⟨rfl, rfl⟩
  · rw [State.advance_ime, State.advance_eiDelay, hu]
    exact .inr ⟨rfl, rfl⟩

variable {s t : State} (h : machineStep s = .next t) (hime : s.ime = false) (he : s.eiDelay = false)
include h hime he

/-- IME stays 0 while no EI is pending and the byte at PC is not RETI's. -/
theorem machineStep_ime_of_not_reti (hreti : s.readByte s.pc ≠ 0xD9#8) : t.ime = false := by
  obtain ⟨ht, -⟩ | ⟨ht, -⟩ := machineStep_ime_eiDelay h hime
  · rw [ht, hime]
  · rw [ht]
    exact State.ran_ime_of_not_reti hime he (s.awake.instrAt_ne rfl hreti)

/-- The latch stays 0 when the byte at PC is not EI's. -/
theorem machineStep_eiDelay_of_not_ei (hei : s.readByte s.pc ≠ 0xFB#8) : t.eiDelay = false := by
  obtain ⟨-, ht⟩ | ⟨-, ht⟩ := machineStep_ime_eiDelay h hime
  · rw [ht, he]
  · rw [ht]
    exact State.ran_eiDelay_of_not_ei (s.awake.instrAt_ne rfl hei)

end Machine
end Sys2Proof

open Sys2Proof Sys2Proof.Machine

/-- Settles O50: the environment leaves IME, the latch and PC, so each clause is one of the machine step after it. -/
theorem onlyEiOrRetiRaisesIme : Obligations.OnlyEiOrRetiRaisesIme := by
  refine ⟨fun s t h hime => ?raises, fun s hfault hime => ?noDispatch⟩
  all_goals have hime' : s.environment.ime = false := s.environment_ime.trans hime
  case raises =>
    have hkept (he : s.eiDelay = false) (hreti : s.environment.readByte s.pc ≠ 0xD9#8) : t.ime = false :=
      machineStep_ime_of_not_reti h hime' (s.environment_eiDelay.trans he) (by rwa [State.environment_pc])
    refine ⟨fun hone => ?_, fun he hreti hei => ⟨hkept he hreti, ?_⟩⟩
    · by_contra hneither
      obtain ⟨he, hreti⟩ := not_or.mp hneither
      exact absurd (hkept (Bool.eq_false_of_not_eq_true he) hreti) (by simp [hone])
    · exact machineStep_eiDelay_of_not_ei h hime' (s.environment_eiDelay.trans he) (by rwa [State.environment_pc])
  case noDispatch =>
    have hfault' : s.environment.fault = none := s.environment_fault.trans hfault
    rw [← s.environment_halted]
    exact ⟨machineStep_of_stopped hfault', machineStep_of_idle hfault',
      fun hstop => machineStep_of_ime_false hfault' hstop hime'⟩

end

section
/-! The state after reset, and construction from a ROM image (R350 to R355). -/

namespace Sys2Proof.Machine

/-- Reset over canonical memory is legal: the timing controller is at the start of a frame (R352). -/
theorem State.resetWith_legal (r : ResetRegs) {m : Memory} (hw : m.wf = true) : (State.resetWith r m).legal = true :=
  Bool.and_eq_true_iff.mpr ⟨hw, rfl⟩

/-- A read of LY is the scanline (R62). -/
theorem State.readByte_ly (s : State) : s.readByte lyAddr = BitVec.ofNat 8 s.timing.scanline :=
  s.readByte_eq lyAddr (by decide)

/-- An address of ROM bank 0 reads its own cell. -/
theorem State.readByte_rom0 (s : State) {a : Word} (h : a.toNat < 0x4000) : s.readByte a = s.mem.get a.toNat :=
  s.readByte_of_cellOf (mt eq_joypAddr.mp (by omega)) (cellOf_of_isCell (isCell_eq_true.mpr (.inl h)))

/-- An image that fits ROM bank 0 is canonical memory, and stays so under any RAM. -/
theorem loadRam_romCells_wf (ram : List Host.Cell) {image : List Byte} (h : image.length ≤ 0x4000) :
    (loadRam ram (romCells 0 image)).wf = true :=
  loadRam_wf ram (romCells_wfAbove image 0 none (by omega) nofun)

/-- The cells of ROM bank 0 hold the image, whatever the RAM. -/
theorem loadRam_romCells_get (ram : List Host.Cell) (image : List Byte) {i : Nat} (h : i < 0x4000) :
    (loadRam ram (romCells 0 image)).get i = image.getD i 0 := by
  have hget := romCells_get image 0 i
  rw [Nat.zero_add] at hget
  rw [loadRam_get_rom ram _ (by omega), hget]
  rfl

end Sys2Proof.Machine

open Sys2Proof Sys2Proof.Machine

/-- Settles O59: the image's cells are canonical and RAM leaves them, so each address reads the image's byte. -/
theorem constructionLoadsTheImageOrRefuses : Obligations.ConstructionLoadsTheImageOrRefuses := by
  intro r ram image
  refine ⟨fun hlen => ⟨_, if_pos hlen, rfl, ?legal, fun i hi => ?reads⟩, fun hlen => if_neg hlen⟩
  case legal => exact State.resetWith_legal r (loadRam_romCells_wf ram hlen.le)
  case reads =>
    have haddr : (BitVec.ofNat 16 i).toNat = i := Nat.mod_eq_of_lt (by omega)
    rw [State.readByte_rom0 _ (by omega), haddr]
    exact loadRam_romCells_get ram image hi

/-- Settles O57: each field as `State.resetWith` sets it, and 0xFF44 reads the scanline. -/
theorem resetLeavesTheStatedValues : Obligations.ResetLeavesTheStatedValues := by
  intro r m
  refine ⟨rfl, rfl, rfl, rfl, rfl, rfl, rfl, rfl, rfl, rfl, rfl, rfl, rfl, ?scanline, ?defaults⟩
  case scanline => exact (State.resetWith r m).readByte_ly
  case defaults => exact ⟨rfl, rfl, rfl, rfl, rfl, rfl⟩

end

section
/-! The decoder and the encoder as inverses: the length, both round trips, and the illegal bytes (R80, R90, R93 to
R97). -/

namespace Sys2Proof

/-! ## The encoding of a decoded instruction, and back -/

/-- An instruction takes one to three bytes. -/
theorem instrLength_mem (b0 : Byte) : instrLength b0 = 1 ∨ instrLength b0 = 2 ∨ instrLength b0 = 3 := by
  unfold instrLength
  cases primary b0 <;> simp

/-- The bytes of the instruction that three bytes begin are the first ones of the three. -/
theorem encode_decodeBytes (b0 b1 b2 : Byte) : encode (decodeBytes b0 b1 b2) = [b0, b1, b2].take (instrLength b0) := by
  have hslot := primary_slot b0
  unfold decodeBytes instrLength
  cases h : primary b0 <;> rw [h] at hslot
  case op i => exact hslot
  case imm8 f => exact hslot b1
  case imm16 f => simpa using hslot (wordOf b2 b1)
  case extended => rw [show b0 = 0xCB#8 from hslot]; exact extended_slot b1

/-- The law of encodings holds of every row: the rows with operand bytes by their formats, the others by the map their
first byte selects. -/
theorem Laws.Encoding.statement (i : Instr) : Laws.Encoding.Statement i := by
  cases i
  case ld_BC_d16 w | ld_DE_d16 w | ld_HL_d16 w | ld_SP_d16 w | ld_ma16_SP w | ld_ma16_A w | ld_A_ma16 w | jp_a16 w |
      jp_NZ_a16 w | jp_Z_a16 w | jp_NC_a16 w | jp_C_a16 w | call_a16 w | call_NZ_a16 w | call_Z_a16 w | call_NC_a16 w |
      call_C_a16 w => exact of_imm16 _ w rfl rfl
  case ld_B_d8 b | ld_C_d8 b | ld_D_d8 b | ld_E_d8 b | ld_H_d8 b | ld_L_d8 b | ld_mHL_d8 b | ld_A_d8 b | jr_e8 b |
      jr_NZ_e8 b | jr_Z_e8 b | jr_NC_e8 b | jr_C_e8 b | add_A_d8 b | adc_A_d8 b | sub_d8 b | sbc_A_d8 b | and_d8 b |
      xor_d8 b | or_d8 b | cp_d8 b | ldh_ma8_A b | ldh_A_ma8 b | add_SP_e8 b | ld_HL_SPe8 b | stop b =>
    exact of_imm8 _ b rfl rfl
  all_goals first
    | exact of_op _ rfl rfl
    | exact of_extended _ rfl rfl

/-- Every instruction is what some three bytes begin. -/
theorem exists_decodeBytes_eq (i : Instr) : ∃ b0 b1 b2, decodeBytes b0 b1 b2 = i :=
  ⟨_, _, _, (Laws.Encoding.statement i).2 []⟩

/-! ## Decoding a list -/

/-- A list that begins with a byte decodes when it is long enough, to the instruction of its first bytes. -/
theorem decode_cons (b0 : Byte) (xs : List Byte) :
    decode (b0 :: xs) =
      if xs.length + 1 < instrLength b0 then .error (.truncated (instrLength b0) (xs.length + 1))
      else .ok (decodeBytes b0 (xs.getD 0 0) (xs.getD 1 0), xs.drop (instrLength b0 - 1)) := rfl

theorem decode_cons_eq_ok_iff {b0 : Byte} {xs rest : List Byte} {i : Instr} :
    decode (b0 :: xs) = .ok (i, rest) ↔
      instrLength b0 ≤ xs.length + 1 ∧ decodeBytes b0 (xs.getD 0 0) (xs.getD 1 0) = i ∧
        xs.drop (instrLength b0 - 1) = rest := by
  rw [decode_cons]
  split
  case isTrue h => simp; omega
  case isFalse h => simp; omega

/-- The bytes a list's decoding uses are the ones its first byte asks for. -/
theorem encode_of_decode {b0 : Byte} {xs rest : List Byte} {i : Instr} (h : decode (b0 :: xs) = .ok (i, rest)) :
    encode i = (b0 :: xs).take (instrLength b0) := by
  obtain ⟨hlen, rfl, -⟩ := decode_cons_eq_ok_iff.mp h
  rw [encode_decodeBytes]
  obtain hn | hn | hn := instrLength_mem b0 <;> rw [hn] at hlen ⊢
  · rfl
  · obtain _ | ⟨x, xs⟩ := xs <;> simp at hlen ⊢
  · obtain _ | ⟨x, _ | ⟨y, xs⟩⟩ := xs <;> simp at hlen ⊢

/-! ## Illegal bytes -/

/-- Only the illegal byte itself decodes to its row, whatever follows it. -/
theorem decodeBytes_form_illegal_iff (b0 b1 b2 : Byte) (k : IllegalByte) :
    (decodeBytes b0 b1 b2).form = .illegal k ↔ b0 = k.byte := by
  refine ⟨fun h => ?_, fun h => h ▸ decodeBytes_illegalByte k b1 b2⟩
  have hhead := encode_decodeBytes_head b0 b1 b2
  rw [Machine.encode_of_illegal, h] at hhead
  exact (Option.some.inj hhead).symm

theorem Instr.wf_eq_false_iff (i : Instr) : i.wf = false ↔ ∃ k, i.form = .illegal k := by
  refine ⟨Instr.form_illegal_of_not_wf, fun ⟨k, hk⟩ => ?_⟩
  rw [Instr.wf, hk]

/-- The eleven bytes of R95. -/
theorem exists_illegalByte_iff (b : Byte) : (∃ k : IllegalByte, b = k.byte) ↔
    b ∈ [0xD3#8, 0xDB#8, 0xDD#8, 0xE3#8, 0xE4#8, 0xEB#8, 0xEC#8, 0xED#8, 0xF4#8, 0xFC#8, 0xFD#8] := by
  constructor
  · rintro ⟨k, rfl⟩
    cases k <;> decide
  · intro h
    simp only [List.mem_cons, List.not_mem_nil, or_false] at h
    obtain rfl | rfl | rfl | rfl | rfl | rfl | rfl | rfl | rfl | rfl | rfl := h
    exacts [⟨.xD3, rfl⟩, ⟨.xDB, rfl⟩, ⟨.xDD, rfl⟩, ⟨.xE3, rfl⟩, ⟨.xE4, rfl⟩, ⟨.xEB, rfl⟩, ⟨.xEC, rfl⟩, ⟨.xED, rfl⟩,
      ⟨.xF4, rfl⟩, ⟨.xFC, rfl⟩, ⟨.xFD, rfl⟩]

/-! ## Forms -/

/-- The instruction of a form is of that form: the rows of a form are one for each choice of its operands. -/
theorem Form.form_ofForm (f : Form) : (Instr.ofForm f).form = f := by
  cases f
  case ldRegReg d r | aluReg d r | rotReg d r | bitReg d r | resReg d r | setReg d r => cases d <;> cases r <;> rfl
  case ldRegImm x _ | ldPairImm x _ | aluImm x _ | jpCond x _ | jrCond x _ | callCond x _ => cases x <;> rfl
  case ldRegHL x | ldHLReg x | push x | pop x | aluHL x | incReg x | decReg x | addHL x | incPair x | decPair x |
      rotHL x | bitHL x | resHL x | setHL x | retCond x | rst x | illegal x => cases x <;> rfl
  all_goals rfl

end Sys2Proof

open Sys2Proof Sys2Proof.Machine

/-- Settles O1: an instruction is what three bytes begin, its encoding is the first of them, and the decoder looks at no
byte past those. -/
theorem decodeOfEncodeIsTheInstruction : Obligations.DecodeOfEncodeIsTheInstruction := by
  intro i rest
  obtain ⟨b0, b1, b2, rfl⟩ := exists_decodeBytes_eq i
  rw [encode_decodeBytes, instrLength]
  cases hslot : primary b0 <;> simp [decode_cons_eq_ok_iff, instrLength, decodeBytes, hslot]

/-- Settles O2: the encoding is the first bytes of the list and the rest is what lies behind them. -/
theorem encodeOfDecodeIsTheBytes : Obligations.EncodeOfDecodeIsTheBytes := by
  intro bytes rest i h
  cases bytes with
  | nil => cases h
  | cons b0 xs =>
    have hrest : rest = (b0 :: xs).drop (instrLength b0) := by
      obtain ⟨-, -, rfl⟩ := decode_cons_eq_ok_iff.mp h
      obtain hn | hn | hn := instrLength_mem b0 <;> rw [hn] <;> rfl
    rw [encode_of_decode h, hrest, List.take_append_drop]

/-- Settles O4: a row is not well-formed exactly when its form is an illegal byte's. -/
theorem exactlyElevenBytesAreIllegal : Obligations.ExactlyElevenBytesAreIllegal := by
  intro b0 b1 b2
  rw [Instr.wf_eq_false_iff, ← exists_illegalByte_iff]
  exact exists_congr (decodeBytes_form_illegal_iff b0 b1 b2)

/-- Settles O5: what decodes has the length its first byte asks for, and only what is shorter does not decode. -/
theorem lengthComesFromTheFirstByte : Obligations.LengthComesFromTheFirstByte := by
  intro b0 xs
  have hrange := instrLength_mem b0
  refine ⟨by omega, rfl, rfl, ⟨fun ⟨i, rest, h⟩ => ?long, fun hlen => ?decodes⟩, fun i rest h => ?used⟩
  case long => exact (decode_cons_eq_ok_iff.mp h).1
  case decodes => exact ⟨_, _, decode_cons_eq_ok_iff.mpr ⟨hlen, rfl, rfl⟩⟩
  case used =>
    obtain ⟨hlen, -, hrest⟩ := decode_cons_eq_ok_iff.mp h
    refine ⟨?_, hrest.symm⟩
    rw [encode_of_decode h, List.length_take_of_le hlen]

/-- Settles O6: each row of a form is the form's, and the form of a row has it as its row. -/
theorem everyInstructionHasOneForm : Obligations.EveryInstructionHasOneForm :=
  ⟨Form.form_ofForm, Instr.ofForm_form⟩

/-- Settles O3, by running the decoder on the eight byte lists. -/
theorem wordsOfTheSpecDecode : Obligations.WordsOfTheSpecDecode :=
  ⟨rfl, rfl, rfl, rfl, rfl, rfl, rfl, rfl⟩

end

section
/-! The frame of every instruction: the memory, the registers, the flags and the control state it leaves as they were
(R20 to R31, R51 to R74). -/

namespace Sys2Proof.Machine

/-- The state `exec` answers is its form's. -/
theorem exec_next {i : Instr} {s t : State} (h : exec i s = .next t) : t = i.form.after s := by
  rw [exec_eq] at h
  injection h with h
  exact h.symm

/-! ## Stores -/

/-- The state after a list of byte writes, the first first. -/
def State.stored (s : State) (ws : List (Word × Byte)) : State :=
  ws.foldl (fun t w => t.writeByte w.1 w.2) s

@[simp] theorem State.stored_nil (s : State) : s.stored [] = s := rfl

@[simp] theorem State.stored_timing (s : State) (ws : List (Word × Byte)) : (s.stored ws).timing = s.timing := by
  induction ws generalizing s with
  | nil => rfl
  | cons w ws ih => exact (ih _).trans (s.writeByte_timing _ _)

/-- An address that reaches none of the bytes written reads as before. -/
theorem State.readByte_stored_other (s : State) {ws : List (Word × Byte)} {a : Word}
    (h : ∀ d ∈ ws.map Prod.fst, sameByte a d = false) : (s.stored ws).readByte a = s.readByte a := by
  induction ws generalizing s with
  | nil => rfl
  | cons w ws ih =>
    obtain ⟨hw, hws⟩ := List.forall_mem_cons.mp h
    exact (ih _ hws).trans (s.readByte_writeByte_other w.2 hw)

/-- No write reaches the ROM banks. -/
theorem State.readByte_stored_rom (s : State) (ws : List (Word × Byte)) {a : Word} (h : a.toNat < 0x8000) :
    (s.stored ws).readByte a = s.readByte a := by
  induction ws generalizing s with
  | nil => rfl
  | cons w ws ih => exact (ih _).trans (s.readByte_writeByte_rom w.1 w.2 h)

/-- What a write does to memory depends on memory alone. -/
theorem State.writeByte_mem_congr {s t : State} (h : t.mem = s.mem) (a : Word) (v : Byte) :
    (t.writeByte a v).mem = (s.writeByte a v).mem := by
  rw [State.writeByte_eq, State.writeByte_eq]
  cases storeCell a <;> simp [h]

theorem State.memUpdated_mem (f : Byte → Flags → Byte × Flags) (s : State) :
    (s.memUpdated f).mem = (s.writeByte s.hl (f (s.readByte s.hl) s.flags).1).mem :=
  State.writeByte_mem_congr (s.afterRead_mem _) _ _

/-- A push writes the low byte and then the high one. -/
theorem State.push16_mem (s : State) (v : Word) :
    (s.push16 v).mem = (s.stored [(s.sp - 2, lowByte v), (s.sp - 2 + 1, highByte v)]).mem :=
  State.writeByte_mem_congr (State.writeByte_mem_congr (s := s) (t := { s with sp := s.sp - 2 }) rfl _ _) _ _

/-! ## Draws of the joypad (R63) -/

/-- How many of the addresses read are 0xFF00. -/
def drawCount (as : List Word) : Nat := (as.filter (· == joypAddr)).length

@[simp] theorem drawCount_nil : drawCount [] = 0 := rfl

theorem drawCount_cons (a : Word) (as : List Word) : drawCount (a :: as) = drawCount [a] + drawCount as := by
  by_cases h : a = joypAddr <;> simp [drawCount, h, Nat.add_comm]

theorem State.afterRead_joypadReads (s : State) (a : Word) :
    (s.afterRead a).joypadReads = s.joypadReads + drawCount [a] := by
  by_cases h : a = joypAddr <;> simp [State.afterRead, drawCount, h]

theorem State.afterPop_joypadReads (s : State) :
    s.afterPop.joypadReads = s.joypadReads + drawCount [s.sp, s.sp + 1] := by
  rw [drawCount_cons, ← Nat.add_assoc, ← State.afterRead_joypadReads, ← State.afterRead_joypadReads]
  rfl

/-! ## Registers -/

theorem Regs.get_setA_other (g : Regs) (v : Byte) {r : Reg8} (h : r ≠ .A) :
    ({ g with a := v } : Regs).get r = g.get r :=
  Regs.get_set_other g .A r v h

/-- An ALU operation leaves every register but A, and CP leaves A too. -/
theorem Regs.get_alu_other {g : Regs} {op : AluOp} {v : Byte} {c : Bool} {r : Reg8} (h : op ≠ .CP → r ≠ .A) :
    ({ g with a := (alu op g.a v c).1 } : Regs).get r = g.get r := by
  by_cases hop : op = .CP
  · subst hop; rfl
  · exact g.get_setA_other _ (h hop)

/-- A pair write leaves the registers that are not halves of the pair. -/
theorem State.setPair_get_other (s : State) {p : Reg16} (v : Word) {r : Reg8} (h : r ∉ Reg16.halves p) :
    (s.setPair p v).regs.get r = s.regs.get r := by
  cases p
  case SP => rfl
  case BC | DE | HL => cases r <;> first | rfl | exact absurd (by decide) h

/-- A POP leaves the registers that are not halves of its pair. -/
theorem State.setStackPair_get_other (s : State) {p : StackPair} (v : Word) {r : Reg8}
    (h : r ∉ (Form.pop p).writesRegs) : (s.setStackPair p v).regs.get r = s.regs.get r := by
  cases p <;> cases r <;> first | rfl | exact absurd (by decide) h

end Sys2Proof.Machine

namespace Sys2Proof

open Sys2Proof.Machine

/-! ## What each form does to memory and the draws -/

/-- What an instruction leaves in memory is what writes at its store addresses leave. -/
theorem Form.after_mem (f : Form) (s : State) :
    ∃ ws : List (Word × Byte), ws.map Prod.fst = f.storeAddrs s ∧ (f.after s).mem = (s.stored ws).mem := by
  cases f
  case ldHLReg | ldHLImm | ldHLIncA | ldHLDecA | ldBCA | ldDEA | ldAddrA | ldhAddrA | ldCA => exact ⟨[(_, _)], rfl, rfl⟩
  case ldAddrSP => exact ⟨[(_, _), (_, _)], rfl, rfl⟩
  case incHL | decHL | rotHL => exact ⟨[(_, _)], rfl, s.memUpdated_mem _⟩
  case resHL b => exact ⟨[(_, _)], rfl, s.memUpdated_mem fun v f => (resetBit b v, f)⟩
  case setHL b => exact ⟨[(_, _)], rfl, s.memUpdated_mem fun v f => (setBit b v, f)⟩
  case push | call | rst => exact ⟨[(_, _), (_, _)], rfl, s.push16_mem _⟩
  case callCond cc a16 =>
    dsimp only [Form.after, Form.storeAddrs]
    split
    · exact ⟨[(_, _), (_, _)], rfl, s.push16_mem _⟩
    · exact ⟨[], rfl, rfl⟩
  case jpCond | jrCond | retCond =>
    refine ⟨[], rfl, ?_⟩
    dsimp only [Form.after]
    split <;> simp [State.counted, State.returned]
  all_goals
    refine ⟨[], rfl, ?_⟩
    simp [Form.after, State.counted, State.returned, State.withA, State.regUpdated, State.raiseIllegal]

/-- An instruction takes one draw for each of its reads of 0xFF00. -/
theorem Form.after_joypadReads (f : Form) (s : State) :
    (f.after s).joypadReads = s.joypadReads + drawCount (f.loadAddrs s) := by
  cases f
  case callCond | jpCond | jrCond =>
    dsimp only [Form.after, Form.loadAddrs]
    split <;> simp [State.counted, State.called]
  case retCond =>
    dsimp only [Form.after, Form.loadAddrs]
    split <;> simp [State.counted, State.returned, State.afterPop_joypadReads]
  all_goals
    simp [Form.after, Form.loadAddrs, State.counted, State.called, State.returned, State.memUpdated, State.withA,
      State.regUpdated, State.raiseIllegal, State.afterRead_joypadReads, State.afterPop_joypadReads]

/-! ## What each form does to the registers -/

/-- Every register but the destinations is kept. -/
theorem Form.after_reg {f : Form} {r : Reg8} (h : r ∉ f.writesRegs) (s : State) :
    (f.after s).regs.get r = s.regs.get r := by
  cases f
  case aluReg op _ | aluHL op | aluImm op _ =>
    have hA : op ≠ .CP → r ≠ .A := by cases op <;> simp_all [Form.writesRegs]
    simpa [Form.after, State.counted, State.withA] using Regs.get_alu_other hA
  case ldPairImm p _ | incPair p | decPair p => exact s.setPair_get_other _ h
  case ldHLSP | addHL => exact s.setPair_get_other (p := .HL) _ h
  case pop p => exact (s.afterPop.setStackPair_get_other _ h).trans (by rw [s.afterPop_regs])
  case ldHLIncA | ldHLDecA =>
    exact ((s.writeByte _ _).setPair_get_other (p := .HL) _ h).trans (by rw [State.writeByte_regs])
  case ldAHLInc | ldAHLDec =>
    obtain ⟨hA, hHL⟩ := not_or.mp (mt List.mem_cons.mpr h)
    exact (State.setPair_get_other (p := .HL) _ _ hHL).trans (by simp [Regs.get_set_other _ _ _ _ hA])
  case jpCond | jrCond | callCond | retCond =>
    dsimp only [Form.after]; split <;> simp [State.counted, State.called, State.returned]
  case ldRegReg d _ | ldRegHL d | ldRegImm d _ | incReg d | decReg d | rotReg _ d | resReg _ d | setReg _ d =>
    have hd : r ≠ d := mt List.mem_singleton.mpr h
    simp [Form.after, State.counted, State.regUpdated, Regs.get_set_other _ _ _ _ hd]
  case ldABC | ldADE | ldAAddr | ldhAAddr | ldAC | rlca | rrca | rla | rra | daa | cpl =>
    have hA : r ≠ .A := mt List.mem_singleton.mpr h
    simp [Form.after, State.counted, State.withA, Regs.get_set_other _ _ _ _ hA, Regs.get_setA_other _ _ hA]
  all_goals
    simp [Form.after, State.counted, State.called, State.returned, State.memUpdated, State.raiseIllegal]

/-- SP is kept by the forms that do not move it. -/
theorem Form.after_sp {f : Form} (h : f.writesSP = false) (s : State) : (f.after s).sp = s.sp := by
  cases f
  case ldPairImm p _ | incPair p | decPair p => cases p <;> first | rfl | cases h
  case push | pop | call | callCond | ret | retCond | reti | rst | ldSPHL | addSP => cases h
  case jpCond | jrCond =>
    dsimp only [Form.after]
    split <;> rfl
  all_goals
    simp [Form.after, State.counted, State.memUpdated, State.withA, State.regUpdated, State.raiseIllegal]

/-- PC is kept by the forms that transfer no control. -/
theorem Form.after_pc {f : Form} (h : f.transfers = false) (s : State) : (f.after s).pc = s.pc := by
  cases f
  case jp | jpCond | jpHL | jr | jrCond | call | callCond | ret | retCond | reti | rst | illegal => cases h
  all_goals
    simp [Form.after, State.counted, State.memUpdated, State.withA, State.regUpdated]

/-! ## What each form does to the flags -/

@[simp] theorem FlagEffects.none_agree (f : Flags) : FlagEffects.none.agree f f = true := by
  simp [FlagEffects.agree, FlagEffects.none, FlagEffect.agrees]

/-- The flags change as the table's column says. -/
theorem Form.after_flags (f : Form) (s : State) : f.flagEffects.agree s.flags (f.after s).flags = true := by
  cases f
  case aluReg op _ | aluHL op | aluImm op _ => cases op <;> rfl
  case rotReg op _ | rotHL op => cases op <;> rfl
  case pop p =>
    cases p
    case AF => rfl
    case BC | DE | HL => simp [Form.after, Form.flagEffects, State.counted, State.setStackPair]
  case jpCond | jrCond | callCond | retCond =>
    dsimp only [Form.after]; split <;> simp [Form.flagEffects, State.counted, State.called, State.returned]
  case incReg | incHL | decReg | decHL | addHL | addSP | ldHLSP | rlca | rrca | rla | rra | bitReg | bitHL | daa | cpl |
      scf | ccf =>
    simp [Form.after, Form.flagEffects, FlagEffects.agree, FlagEffect.agrees, State.counted, State.memUpdated,
      State.withA, State.regUpdated, inc8, dec8, add16, addSPe8, rotateAccFlags, bitFlags, daa8, cplFlags, scfFlags,
      ccfFlags]
  all_goals
    simp [Form.after, Form.flagEffects, State.counted, State.called, State.returned, State.memUpdated,
      State.regUpdated, State.raiseIllegal]

/-! ## What each form does to the control state -/

/-- HALT alone writes `halted`, STOP alone `stopped`, and no instruction the timing controller, the inputs or the
parameter. -/
theorem Form.after_control (f : Form) (s : State) :
    (f ≠ .halt → (f.after s).halted = s.halted) ∧ ((∀ b, f ≠ .stop b) → (f.after s).stopped = s.stopped) ∧
      (f.after s).timing = s.timing ∧ (f.after s).inputs = s.inputs ∧
      (f.after s).vblankRequestsIf = s.vblankRequestsIf := by
  cases f
  case jpCond | jrCond | callCond | retCond =>
    dsimp only [Form.after]; split <;> simp [State.counted, State.called, State.returned]
  all_goals
    simp [Form.after, State.counted, State.called, State.returned, State.memUpdated, State.withA, State.regUpdated,
      State.raiseIllegal]

@[simp] theorem Form.after_timing (f : Form) (s : State) : (f.after s).timing = s.timing := by
  obtain ⟨-, -, htiming, -, -⟩ := f.after_control s
  exact htiming

end Sys2Proof

open Sys2Proof Sys2Proof.Machine

/-- Settles O39: memory changes by writes at the store addresses, and the scanline not at all. -/
theorem storesReachOnlyTheAddressesStoredTo : Obligations.StoresReachOnlyTheAddressesStoredTo := by
  intro i s t h
  obtain rfl := exec_next h
  refine ⟨fun a hother hj => ?_, i.form.after_joypadReads s⟩
  obtain ⟨ws, haddrs, hmem⟩ := i.form.after_mem s
  have hread := State.readByte_congr_plain (s := s.stored ws) (t := i.form.after s) hj hmem (by simp)
  rw [hread, s.readByte_stored_other (haddrs ▸ hother)]

/-- Settles O40: one lemma for the registers, one for SP and one for PC. -/
theorem onlyDestinationRegistersChange : Obligations.OnlyDestinationRegistersChange := by
  intro i s t h
  obtain rfl := exec_next h
  exact ⟨fun r hr => Form.after_reg hr s, fun hsp => Form.after_sp hsp s, fun hpc => Form.after_pc hpc s⟩

/-- Settles O41, form by form. -/
theorem flagsChangeAsTheTableSays : Obligations.FlagsChangeAsTheTableSays := by
  intro i s t h
  obtain rfl := exec_next h
  exact i.form.after_flags s

/-- Settles O42: an instruction that is not the named one is of another form, and the lemmas speak of forms. -/
theorem controlStateChangesOnlyWhereNamed : Obligations.ControlStateChangesOnlyWhereNamed := by
  intro i s t h
  obtain rfl := exec_next h
  obtain ⟨hhalted, hstopped, htiming, hinputs, hvblank⟩ := i.form.after_control s
  exact ⟨fun hdi hreti => Form.after_ime (Instr.form_ne hreti) (Instr.form_ne hdi) s,
    fun hdi hei => Form.after_eiDelay (Instr.form_ne hei) (Instr.form_ne hdi) s,
    fun hhalt => hhalted (Instr.form_ne hhalt), fun hstop => hstopped fun b => Instr.form_ne (hstop b),
    fun hwf => Form.after_fault _ s (Instr.form_ne_illegal hwf), htiming, hinputs, hvblank⟩

end

section
/-! What every step keeps: the power states but by HALT and STOP, the legality of the state, the ROM banks (R29, R30,
R40, R53, R314); and that an advance of the timing controller splits anywhere (R319). -/

namespace Sys2Proof.Machine

/-! ## The instruction's state -/

@[simp] theorem State.awake_halted (s : State) : s.awake.halted = false := rfl
@[simp] theorem State.awake_stopped (s : State) : s.awake.stopped = s.stopped := rfl
@[simp] theorem State.awake_timing (s : State) : s.awake.timing = s.timing := rfl
@[simp] theorem State.awake_vblankRequestsIf (s : State) : s.awake.vblankRequestsIf = s.vblankRequestsIf := rfl

@[simp] theorem State.atInstr_halted (s : State) : s.atInstr.halted = s.halted := by simp [State.atInstr]
@[simp] theorem State.atInstr_stopped (s : State) : s.atInstr.stopped = s.stopped := by simp [State.atInstr]
@[simp] theorem State.atInstr_timing (s : State) : s.atInstr.timing = s.timing := by simp [State.atInstr]
@[simp] theorem State.atInstr_mem (s : State) : s.atInstr.mem = s.mem := by simp [State.atInstr]
@[simp] theorem State.atInstr_vblankRequestsIf (s : State) : s.atInstr.vblankRequestsIf = s.vblankRequestsIf := by
  simp [State.atInstr]

/-- But for IME, which a pending EI sets, the state is the one the instruction at PC leaves. -/
theorem State.ran_eq (s : State) : ∃ b, s.ran = { s.instrAt.form.after s.atInstr with ime := b } := by
  unfold State.ran
  split
  · exact ⟨_, rfl⟩
  · exact ⟨_, rfl⟩

/-- An instruction that is not HALT leaves `halted`. -/
theorem State.ran_halted {s : State} (h : s.instrAt ≠ .halt) : s.ran.halted = s.halted := by
  obtain ⟨b, hran⟩ := s.ran_eq
  obtain ⟨hhalted, -⟩ := s.instrAt.form.after_control s.atInstr
  rw [hran, ← s.atInstr_halted]
  exact hhalted (Instr.form_ne h)

/-- An instruction that is not STOP leaves `stopped`. -/
theorem State.ran_stopped {s : State} (h : ∀ b, s.instrAt ≠ .stop b) : s.ran.stopped = s.stopped := by
  obtain ⟨b, hran⟩ := s.ran_eq
  obtain ⟨-, hstopped, -⟩ := s.instrAt.form.after_control s.atInstr
  rw [hran, ← s.atInstr_stopped]
  exact hstopped fun b => Instr.form_ne (h b)

@[simp] theorem State.ran_timing (s : State) : s.ran.timing = s.timing := by
  obtain ⟨b, hran⟩ := s.ran_eq
  rw [hran]
  simp

@[simp] theorem State.ran_vblankRequestsIf (s : State) : s.ran.vblankRequestsIf = s.vblankRequestsIf := by
  obtain ⟨b, hran⟩ := s.ran_eq
  obtain ⟨-, -, -, -, hvblank⟩ := s.instrAt.form.after_control s.atInstr
  rw [hran, ← s.atInstr_vblankRequestsIf]
  exact hvblank

theorem State.ran_wf {s : State} (h : s.mem.wf = true) : s.ran.mem.wf = true := by
  obtain ⟨b, hran⟩ := s.ran_eq
  rw [hran]
  exact Form.after_wf _ (by simpa using h)

/-! ## The ways a machine step ends -/

/-- A machine step that answers a next state leaves all but `halted`, the fault record and the returned count, or
advances the timing controller alone, or dispatches and advances, or runs the instruction at PC and advances. -/
theorem machineStep_next {s t : State} (h : machineStep s = .next t) :
    (∃ b r c, (b = true → s.halted = true) ∧ t = { s with halted := b, fault := r, lastCycles := c }) ∨
    (∃ n c, t = { s.advance n with lastCycles := c }) ∨
    (∃ k n, t = (s.awake.dispatch k).advance n) ∨
    (∃ n, t = s.awake.ran.advance n) := by
  obtain ⟨-, ⟨-, rfl⟩ | ⟨-, -, -, rfl⟩ | ⟨-, -, -, rfl⟩ | ⟨-, -, -, k, -, rfl⟩ | ⟨-, -, -, -, u, n, rfl, -, rfl⟩⟩ :=
    machineStep_cases h
  · exact .inl ⟨s.halted, s.fault, none, id, rfl⟩
  · exact .inr (.inl ⟨_, _, rfl⟩)
  · exact .inr (.inr (.inl ⟨_, _, rfl⟩))
  · exact .inl ⟨false, _, none, nofun, rfl⟩
  · exact .inr (.inr (.inr ⟨n, rfl⟩))

/-! ## Power states (R29, R30) -/

/-- Only an instruction that is HALT sets `halted`. -/
theorem machineStep_halted {s t : State} (h : machineStep s = .next t) (hi : s.awake.instrAt ≠ .halt)
    (ht : t.halted = true) : s.halted = true := by
  obtain ⟨b, r, c, hb, rfl⟩ | ⟨n, c, rfl⟩ | ⟨k, n, rfl⟩ | ⟨n, rfl⟩ := machineStep_next h
  · exact hb ht
  · exact (s.advance_halted n).symm.trans ht
  · simp at ht
  · simp [State.ran_halted hi] at ht

/-- Only an instruction that is STOP sets `stopped`. -/
theorem machineStep_stopped {s t : State} (h : machineStep s = .next t) (hi : ∀ b, s.awake.instrAt ≠ .stop b) :
    t.stopped = s.stopped := by
  obtain ⟨b, r, c, -, rfl⟩ | ⟨n, c, rfl⟩ | ⟨k, n, rfl⟩ | ⟨n, rfl⟩ := machineStep_next h
  · rfl
  · exact s.advance_stopped n
  · simp
  · simp [State.ran_stopped hi]

/-! ## Legal states (R40) -/

theorem State.legal_iff (s : State) : s.legal = true ↔ s.mem.wf = true ∧ s.timing.legal = true := Bool.and_eq_true_iff

/-- An advance from canonical memory and a legal controller leads to a legal state. -/
theorem State.advance_legal {s : State} (hw : s.mem.wf = true) (ht : s.timing.legal = true) (n : Nat) :
    (s.advance n).legal = true := by
  obtain ⟨-, hframe⟩ := s.timing.legal_iff.mp ht
  exact (State.legal_iff _).mpr ⟨State.advance_wf hw n, s.advance_timing n ▸ Timing.advance_legal hframe n⟩

theorem machineStep_legal {s t : State} (hs : s.legal = true) (h : machineStep s = .next t) : t.legal = true := by
  obtain ⟨hw, ht⟩ := s.legal_iff.mp hs
  obtain ⟨b, r, c, -, rfl⟩ | ⟨n, c, rfl⟩ | ⟨k, n, rfl⟩ | ⟨n, rfl⟩ := machineStep_next h
  · exact hs
  · exact State.advance_legal hw ht n
  · exact State.advance_legal (State.dispatch_wf (s := s.awake) hw k) (by simpa using ht) n
  · exact State.advance_legal (State.ran_wf (s := s.awake) hw) (by simpa using ht) n

theorem State.environment_legal {s : State} (hs : s.legal = true) : s.environment.legal = true := by
  obtain ⟨hw, ht⟩ := s.legal_iff.mp hs
  exact (State.legal_iff _).mpr ⟨State.environment_wf hw, s.environment_timing ▸ ht⟩

/-! ## The ROM banks (R53, R54) and the parameter (R8) -/

section
variable {a : Word} (ha : a.toNat < 0x8000)
include ha

theorem State.readByte_requestInterrupts_rom (s : State) (bits : BitVec 5) :
    (s.requestInterrupts bits).readByte a = s.readByte a := s.readByte_setIf_rom _ ha

theorem State.readByte_environment_rom (s : State) : s.environment.readByte a = s.readByte a := by
  unfold State.environment
  split
  · rfl
  · exact s.readByte_requestInterrupts_rom ha _

theorem State.readByte_advance_rom (s : State) (n : Nat) : (s.advance n).readByte a = s.readByte a := by
  by_cases hf : (s.timing.advance n).framesReady = s.timing.framesReady
  case pos => rw [State.advance_plain s n (.inr hf)]; exact State.readByte_congr_rom ha rfl
  case neg =>
    by_cases hv : s.vblankRequestsIf = true
    · rw [State.advance_request s n hv hf, State.readByte_requestInterrupts_rom ha]
      exact State.readByte_congr_rom ha rfl
    · rw [State.advance_plain s n (.inl (Bool.eq_false_of_not_eq_true hv))]
      exact State.readByte_congr_rom ha rfl

theorem State.readByte_push16_rom (s : State) (v : Word) : (s.push16 v).readByte a = s.readByte a :=
  (State.readByte_congr_rom ha (s.push16_mem v)).trans (s.readByte_stored_rom _ ha)

theorem State.readByte_dispatch_rom (s : State) (k : Nat) : (s.dispatch k).readByte a = s.readByte a :=
  (State.readByte_push16_rom ha { s.setIf _ with ime := false, eiDelay := false } s.pc).trans
    (s.readByte_setIf_rom _ ha)

theorem Form.readByte_after_rom (f : Form) (s : State) : (f.after s).readByte a = s.readByte a := by
  obtain ⟨ws, -, hmem⟩ := f.after_mem s
  rw [State.readByte_congr_rom ha hmem, s.readByte_stored_rom ws ha]

theorem State.readByte_ran_rom (s : State) : s.ran.readByte a = s.readByte a := by
  obtain ⟨b, hran⟩ := s.ran_eq
  rw [hran]
  exact (Form.readByte_after_rom ha _ _).trans (State.readByte_congr_rom ha s.atInstr_mem)

theorem machineStep_readByte_rom {s t : State} (h : machineStep s = .next t) : t.readByte a = s.readByte a := by
  obtain ⟨b, r, c, -, rfl⟩ | ⟨n, c, rfl⟩ | ⟨k, n, rfl⟩ | ⟨n, rfl⟩ := machineStep_next h
  · rfl
  · exact s.readByte_advance_rom ha n
  · rw [State.readByte_advance_rom ha, State.readByte_dispatch_rom ha]; rfl
  · rw [State.readByte_advance_rom ha, State.readByte_ran_rom ha]; rfl

end

theorem machineStep_vblankRequestsIf {s t : State} (h : machineStep s = .next t) :
    t.vblankRequestsIf = s.vblankRequestsIf := by
  obtain ⟨b, r, c, -, rfl⟩ | ⟨n, c, rfl⟩ | ⟨k, n, rfl⟩ | ⟨n, rfl⟩ := machineStep_next h <;> simp

/-! ## Splitting an advance (R319) -/

/-- In canonical memory a request made twice is made once. -/
theorem State.requestInterrupts_twice {s : State} (hw : s.mem.wf = true) (bits : BitVec 5) :
    (s.requestInterrupts bits).requestInterrupts bits = s.requestInterrupts bits := by
  have hif : (s.requestInterrupts bits).ifl = s.ifl ||| bits.setWidth 8 := Memory.get_set_same hw _ _
  rw [State.requestInterrupts, hif, BitVec.or_assoc, BitVec.or_self]
  exact congrArg (fun mem => ({ s with mem } : State)) (Memory.set_set hw _ _)

/-- Whether an advance makes the request of V-blank entry (R320). -/
def State.requestsVBlank (s : State) (n : Nat) : Bool :=
  s.vblankRequestsIf && (s.timing.advance n).framesReady != s.timing.framesReady

theorem State.advance_eq (s : State) (n : Nat) : s.advance n =
    if s.requestsVBlank n then State.requestInterrupts { s with timing := s.timing.advance n } 1#5
    else { s with timing := s.timing.advance n } := rfl

/-- The frame count does not fall, so a request is made in the whole advance when it is made in one of its parts. -/
theorem State.requestsVBlank_add (s : State) (m n : Nat) :
    s.requestsVBlank (m + n) = (s.requestsVBlank m || (s.advance m).requestsVBlank n) := by
  have hm := s.timing.advance_framesReady m
  have hn := (s.timing.advance m).advance_framesReady n
  rw [Timing.advance_advance] at hn
  simp only [State.requestsVBlank, State.advance_timing, State.advance_vblankRequestsIf, Timing.advance_advance]
  cases s.vblankRequestsIf
  case false => rfl
  case true =>
    rw [Bool.eq_iff_iff]
    simp only [Bool.true_and, Bool.or_eq_true, bne_iff_ne]
    omega

end Sys2Proof.Machine

open Sys2Proof Sys2Proof.Machine

/-- Settles O51: what sets `halted` or `stopped` is the instruction at PC, and its first byte is HALT's or STOP's. -/
theorem onlyHaltAndStopEnterThePowerStates : Obligations.OnlyHaltAndStopEnterThePowerStates := by
  intro s t h
  rw [← s.environment_pc]
  refine ⟨fun ht hs => ?halted, fun ht hs => ?stopped⟩
  case halted =>
    by_contra hbyte
    have hon := machineStep_halted h (s.environment.awake.instrAt_ne rfl hbyte) ht
    rw [s.environment_halted, hs] at hon
    cases hon
  case stopped =>
    by_contra hbyte
    have hkept := machineStep_stopped h fun b => s.environment.awake.instrAt_ne rfl hbyte
    rw [State.environment_stopped hs, ht] at hkept
    cases hkept

/-- Settles O52: the environment's turn and the machine step keep the state legal. -/
theorem everyStepKeepsTheStateLegal : Obligations.EveryStepKeepsTheStateLegal :=
  fun _ _ hlegal h => machineStep_legal (State.environment_legal hlegal) h

/-- Settles O53: no write reaches the ROM banks, IF lies outside them, and nothing writes the parameter. -/
theorem romAndParametersNeverChange : Obligations.RomAndParametersNeverChange := by
  intro s t h
  refine ⟨fun a ha => ?_, ?_⟩
  · exact (machineStep_readByte_rom ha h).trans (s.readByte_environment_rom ha)
  · exact (machineStep_vblankRequestsIf h).trans s.environment_vblankRequestsIf

/-- Settles O54: the controller splits anywhere, a request made in either part is one of the whole, and two are one. -/
theorem anySplitOfAnAdvanceIsTheSame : Obligations.AnySplitOfAnAdvanceIsTheSame := by
  intro s m n hlegal
  obtain ⟨hw, -⟩ := s.legal_iff.mp hlegal
  have hsum : (s.advance m).timing.advance n = s.timing.advance (m + n) := by
    rw [State.advance_timing, Timing.advance_advance]
  rw [State.advance_eq (s.advance m) n, State.advance_eq s (m + n), State.requestsVBlank_add, hsum]
  cases hm : s.requestsVBlank m
  case false =>
    have hfirst : s.advance m = { s with timing := s.timing.advance m } := by rw [State.advance_eq, hm]; rfl
    rw [hfirst, Bool.false_or]
  case true =>
    have hfirst : s.advance m = State.requestInterrupts { s with timing := s.timing.advance m } 1#5 := by
      rw [State.advance_eq, hm]; rfl
    rw [hfirst, Bool.true_or, if_pos rfl]
    split
    · exact State.requestInterrupts_twice (s := { s with timing := s.timing.advance (m + n) }) hw 1#5
    · rfl

/-- Settles O58: reset over canonical memory is legal, and no memory at all is canonical. -/
theorem resetStateIsLegal : Obligations.ResetStateIsLegal :=
  ⟨State.resetWith_legal resetRegsDefault rfl, fun r _ hw => State.resetWith_legal r hw⟩

end

section
/-! Writes read back (R52, R58, R73), the system instructions (R255 to R259), and the step of a running core (R90,
R314). -/

namespace Sys2Proof.Machine

/-- The state a decoded instruction runs in: the latch is cleared and PC is past the instruction's bytes. -/
theorem State.atInstr_of_decode {s : State} {i : Instr} {rest : List Byte} (h : decode s.nextBytes = .ok (i, rest)) :
    s.atInstr = { s with eiDelay := false }.fetched (encode i).length := by
  obtain ⟨hlen, -, -⟩ := decode_cons_eq_ok_iff.mp h
  rw [encode_of_decode h, List.length_take_of_le hlen, State.atInstr]

end Sys2Proof.Machine

open Sys2Proof Sys2Proof.Machine

/-- Settles O10, by the cell an address reaches. -/
theorem writeThenReadAndTheRestUnchanged : Obligations.WriteThenReadAndTheRestUnchanged :=
  fun s a _ v => ⟨fun hw ha hsame => State.readByte_writeByte_same hw v ha hsame,
    fun hother => s.readByte_writeByte_other v hother, fun hw => State.writeByte_wf hw a v⟩

/-- Settles O38: `Form.after` of each form, and the byte of each illegal row. -/
theorem systemInstructions : Obligations.SystemInstructions := by
  intro b k s
  exact ⟨rfl, rfl, rfl, rfl, by cases k <;> rfl, exec_ofForm .di s, exec_ofForm .ei s, exec_ofForm .halt s,
    exec_ofForm (.stop b) s, exec_ofForm (.illegal k) s⟩

/-- Settles O44: the instruction at PC is the decoded one, and the state it runs in is past the decoded bytes. -/
theorem stepRunsTheDecodedInstruction : Obligations.StepRunsTheDecodedInstruction := by
  intro s i rest hr hd hw
  have hat := State.instrAt_of_decode hd
  obtain ⟨n, hn, hstep⟩ := step_of_runs hr (by rwa [hat])
  have hran : s.ran = if s.eiDelay = true ∧ i ≠ .di then { i.form.after s.atInstr with ime := true }
      else i.form.after s.atInstr := by simp [State.ran, hat]
  obtain ⟨b, hb⟩ := s.ran_eq
  refine ⟨i.form.after s.atInstr, n, ?_, ?_, hran ▸ hstep⟩
  · rw [exec_eq, State.atInstr_of_decode hd]
  · rw [hb, hat] at hn
    exact hn

end

section
/-! DAA after an addition or a subtraction of two-digit decimals (R140, R141, R251). -/

namespace Sys2Proof.Machine

theorem bcd_toNat {n : Nat} (h : n < 100) : (bcd n).toNat = n / 10 * 16 + n % 10 :=
  (BitVec.toNat_ofNat _ 8).trans (Nat.mod_eq_of_lt (by omega))

section
variable {x y : Nat} (hx : x < 100) (hy : y < 100) (cin : Bool)
include hx hy

/-! ## After an addition -/

/-- The binary sum of the digits passes 0x99 exactly when the decimal sum passes 99. -/
theorem bcd_sum_gt_iff :
    (bcd x).toNat + (bcd y).toNat + cin.toNat > 0x99 ↔ x + y + cin.toNat ≥ 100 := by
  have hcin := cin.toNat_le
  have hdigits : x / 10 + y / 10 ≤ 9 ∨ x / 10 + y / 10 ≥ 10 := by omega
  rw [bcd_toNat hx, bcd_toNat hy]
  omega

/-- DAA corrects the high digit exactly for a decimal carry out of the two digits. -/
theorem daaHigh_add8_bcd :
    daaHigh (add8 (bcd x) (bcd y) cin).1 (add8 (bcd x) (bcd y) cin).2 = true ↔ x + y + cin.toNat ≥ 100 := by
  have hcin := cin.toNat_le
  have hn : (add8 (bcd x) (bcd y) cin).2.n = false := rfl
  have hxlt := (bcd x).isLt
  have hylt := (bcd y).isLt
  rw [← bcd_sum_gt_iff hx hy, daaHigh_iff, add8_c_iff, add8_result_toNat, hn]
  simp only [true_and]
  omega

/-- DAA corrects the low digit exactly for a decimal carry out of the low digits. -/
theorem daaLow_add8_bcd :
    daaLow (add8 (bcd x) (bcd y) cin).1 (add8 (bcd x) (bcd y) cin).2 = true ↔ x % 10 + y % 10 + cin.toNat ≥ 10 := by
  have hcin := cin.toNat_le
  have hn : (add8 (bcd x) (bcd y) cin).2.n = false := rfl
  rw [daaLow_iff, add8_h_iff, add8_result_toNat, bcd_toNat hx, bcd_toNat hy, hn]
  simp only [true_and]
  omega

/-- The two corrections make the binary sum of the digits the digits of the sum. -/
theorem daa8_add8_bcd :
    (daa8 (add8 (bcd x) (bcd y) cin).1 (add8 (bcd x) (bcd y) cin).2).1 = bcd ((x + y + cin.toNat) % 100) := by
  have hcin := cin.toNat_le
  apply BitVec.eq_of_toNat_eq
  rw [daa8_toNat_of_add _ rfl, add8_result_toNat, bcd_toNat hx, bcd_toNat hy, bcd_toNat (Nat.mod_lt _ (by decide))]
  simp only [daaHigh_add8_bcd hx hy, daaLow_add8_bcd hx hy]
  split <;> split <;> omega

/-! ## After a subtraction -/

/-- DAA corrects the high digit exactly for a decimal borrow. -/
theorem daaHigh_sub8_bcd :
    daaHigh (sub8 (bcd x) (bcd y) cin).1 (sub8 (bcd x) (bcd y) cin).2 = true ↔ x < y + cin.toNat := by
  have hcin := cin.toNat_le
  have hn : (sub8 (bcd x) (bcd y) cin).2.n = true := rfl
  rw [daaHigh_iff, sub8_c_iff, bcd_toNat hx, bcd_toNat hy, hn]
  simp only [Bool.true_eq_false, false_and, or_false]
  omega

/-- DAA corrects the low digit exactly for a borrow of the low digits. -/
theorem daaLow_sub8_bcd :
    daaLow (sub8 (bcd x) (bcd y) cin).1 (sub8 (bcd x) (bcd y) cin).2 = true ↔ x % 10 < y % 10 + cin.toNat := by
  have hcin := cin.toNat_le
  have hn : (sub8 (bcd x) (bcd y) cin).2.n = true := rfl
  rw [daaLow_iff, sub8_h_iff, bcd_toNat hx, bcd_toNat hy, hn]
  simp only [Bool.true_eq_false, false_and, or_false]
  omega

/-- The two corrections make the binary difference of the digits the digits of the difference. -/
theorem daa8_sub8_bcd :
    (daa8 (sub8 (bcd x) (bcd y) cin).1 (sub8 (bcd x) (bcd y) cin).2).1 = bcd ((x + 200 - y - cin.toNat) % 100) := by
  have hcin := cin.toNat_le
  apply BitVec.eq_of_toNat_eq
  apply Int.ofNat.inj
  refine (daa8_toNat_of_sub _ rfl).trans ?_
  rw [Int.ofNat_eq_natCast, sub8_result_toNat, bcd_toNat hx, bcd_toNat hy, bcd_toNat (Nat.mod_lt _ (by decide))]
  simp only [daaHigh_sub8_bcd hx hy, daaLow_sub8_bcd hx hy]
  split <;> split <;> omega

end

/-! ## The instructions -/

/-- Every operand form of an ALU operation leaves in A and the flags what `alu` gives for the operand. -/
theorem exec_alu {f : Form} {op : AluOp} {v : Byte} {s : State}
    (h : f = .aluImm op v ∨ (∃ r, f = .aluReg op r ∧ s.regs.get r = v) ∨ (f = .aluHL op ∧ s.readByte s.hl = v)) :
    ∃ t, exec (.ofForm f) s = .next t ∧ t.regs.a = (alu op s.regs.a v s.flags.c).1 ∧
      t.flags = (alu op s.regs.a v s.flags.c).2 := by
  obtain rfl | ⟨r, rfl, rfl⟩ | ⟨rfl, rfl⟩ := h
  · exact ⟨_, exec_aluImm op v s, rfl, rfl⟩
  · exact ⟨_, exec_aluReg op r s, rfl, rfl⟩
  · exact ⟨_, exec_aluHL op s, rfl, rfl⟩

end Sys2Proof.Machine

open Sys2Proof Sys2Proof.Machine

/-- Settles O37: digit by digit DAA's corrections are the decimal carries, and the instructions are the two helpers. -/
theorem decimalAdjustMakesDecimalSums : Obligations.DecimalAdjustMakesDecimalSums := by
  refine ⟨fun x y cin hx hy => ?helpers, fun s x y op f hx hy ha hf => ?instructions⟩
  case helpers =>
    refine ⟨daa8_add8_bcd hx hy cin, daaHigh_add8_bcd hx hy cin, ?_, daaHigh_sub8_bcd hx hy cin⟩
    rw [daa8_sub8_bcd hx hy, show x + 100 - y + 100 - cin.toNat = x + 200 - y - cin.toNat by omega]
  case instructions =>
    obtain ⟨t, ht, hta, htf⟩ := exec_alu hf
    rw [ha] at hta htf
    refine ⟨t, _, ht, exec_daa t, ?_⟩
    dsimp only
    rw [hta, htf]
    refine ⟨?add, ?adc, ?sub, ?sbc⟩ <;> rintro rfl
    case add => exact ⟨daa8_add8_bcd hx hy false, daaHigh_add8_bcd hx hy false⟩
    case adc => exact ⟨daa8_add8_bcd hx hy s.flags.c, daaHigh_add8_bcd hx hy s.flags.c⟩
    case sub =>
      have hmod : (x + 100 - y) % 100 = (x + 200 - y - false.toNat) % 100 := by rw [Bool.toNat_false]; omega
      exact ⟨hmod ▸ daa8_sub8_bcd hx hy false, daaHigh_sub8_bcd hx hy false⟩
    case sbc => exact ⟨daa8_sub8_bcd hx hy s.flags.c, daaHigh_sub8_bcd hx hy s.flags.c⟩

end
